-- ==== Sys2Proof/Word.lean ====
section
/-! DEFINITION. The word types of SPR, one name per width that the spec gives (10_state.md R10, 30_encoding.md R61, R64).

Every value is unsigned and bits are numbered from 0 at the least significant bit (00_scope.md R6). The widths TIME_W, RC_W and
SEQ_W are parameters (R4, `Params`), so the three values they bound are natural numbers and the operations reduce them
modulo the width, or test it, where the spec says so (notes/assumptions/23). -/

namespace Sys2Proof

/-- One byte of the frame store or of a payload. -/
abbrev Byte := BitVec 8

/-- 16 bits: the ID word, the CRC word, an FB_READ offset, CR0, CR1, CR4. -/
abbrev Half := BitVec 16

/-- 32 bits: an operation word (R61), CR2, CR3, CR5. -/
abbrev Word := BitVec 32

/-- 34 bits: a packet descriptor (R64). -/
abbrev Desc := BitVec 34

/-- The time input `now` and `resync_t0`, a number below 2^TIME_W of time units (R19, R28). -/
abbrev Time := Nat

/-- The frame sequence counter, a number below 2^SEQ_W (R24). -/
abbrev FrameSeq := Nat

/-- The reader count, a number below 2^RC_W (R23). -/
abbrev RdCount := Nat

/-- A buffer index, 1 bit (R22). -/
abbrev BufIdx := BitVec 1

/-- A segment index, 3 bits (R13, R15). -/
abbrev SegIdx := BitVec 3

/-- A packet index, 12 bits (R12, R16). -/
abbrev PktIdx := BitVec 12

/-- A payload length in bytes, 8 bits (R11). -/
abbrev PayLen := BitVec 8

end Sys2Proof
end

