-- ==== Sys2Proof/Config.lean ====
section
/-! DEFINITION. The static parameters of 00_scope.md R4, a configuration argument of every definition that reads one, with the values
of the reference hardware (92_eei_decisions.md section 1); and the free values of 93_implementation_defined.md U1 and U2. -/

namespace Sys2Proof

/-- The static parameters of R4 and the reset value of CFG (D20), fixed for one machine. The step finds them in
`Machine.State.params` (notes/assumptions/12). -/
structure Params where
  /-- `TAG_IDX`: the packet index at which the segment tag is examined (D36). -/
  tagIdx : Nat
  /-- `COOLDOWN`: length of the resync cooldown window in time units (D15). -/
  cooldown : Nat
  /-- The time unit in milliseconds (D15). Every time is counted in it, so no rule reads it. -/
  timeUnitMs : Nat
  /-- `TIME_W`: width in bits of `now` and `resync_t0` (D15). -/
  timeW : Nat
  /-- `DISCARD_MASK` (D7; 90_conflicts.md C1). -/
  discardMask : Half
  /-- `DISCARD_MATCH` (D7; 90_conflicts.md C1). -/
  discardMatch : Half
  /-- `SEQ_HI`: the highest bit of the ID word's sequence number. -/
  seqHi : Nat
  /-- `SEQ_LO`: its lowest bit. -/
  seqLo : Nat
  /-- `TAG_HI`: the highest bit of the ID word's tag. -/
  tagHi : Nat
  /-- `TAG_LO`: its lowest bit. -/
  tagLo : Nat
  /-- `RC_W`: width in bits of the reader count (D25). -/
  rcW : Nat
  /-- `SEQ_W`: width in bits of the frame sequence counter (D27). -/
  seqW : Nat
  /-- `FRAME_MAX`: bytes of storage in each frame buffer (D19). -/
  frameMax : Nat
  /-- `LEGAL_LEN`: the legal payload lengths in bytes (D19). -/
  legalLens : List Nat
  /-- `CRC_CHECK`: whether the CRC word is validated. Only false is specified (D22), as `Machine.legalParams` says. -/
  crcCheck : Bool
  /-- `cfg_len` after reset (D20). -/
  resetLen : PayLen
  /-- `cfg_pps` after reset (D20). -/
  resetPps : PktIdx
  /-- `cfg_spf` after reset (D20). -/
  resetSpf : SegIdx
  deriving DecidableEq, Repr

/-- The values R4 fixes for the reference hardware, and the reset geometry of R181. -/
def Params.reference : Params where
  tagIdx := 20
  cooldown := 185
  timeUnitMs := 1
  timeW := 32
  discardMask := 0xFF00#16
  discardMatch := 0x0F00#16
  seqHi := 11
  seqLo := 0
  tagHi := 14
  tagLo := 12
  rcW := 8
  seqW := 32
  frameMax := 57600
  legalLens := [160, 240]
  crcCheck := false
  resetLen := 160#8
  resetPps := 60#12
  resetSpf := 4#3

/-- How many byte lanes a packet's payload has: as many as the 8 bits of `cfg_len` can ask for (R11, R64;
notes/assumptions/19). -/
abbrev Config.maxLen : Nat := 255

/-- The largest legal `cfg_pps` (R12, R83). The spec lists no parameter for it (notes/assumptions/12). -/
def Config.maxPps : Nat := 3840

/-- FREE VALUE (U1, 20_memory.md R58): what the byte at linear address `addr` holds while nothing has written it since the
`draw`-th drawing at RESET. It has no body: any value per byte, drawn at RESET and then held (notes/assumptions/5). -/
opaque Config.unwrittenByte (draw addr : Nat) : Byte

/-- FREE VALUE (U2, 41_packet_ops.md R105): byte `i` of the slot hit by the `draw`-th payload error. It has no body: any value
for each byte, independently (notes/assumptions/7). -/
opaque Config.payErrByte (draw i : Nat) : Byte

end Sys2Proof
end

