-- ==== Sys2Proof/Syntax.lean ====
section
/-! DEFINITION. The operations of SPR: one constructor per row of spec/opcode_table.json (30_encoding.md R60).

An operation is the decoded word or descriptor. The issuing port, `now` and the payload bytes are sidebands, not part of the
word (R61, R64); they stand in `Machine.State.sideband`. -/

namespace Sys2Proof

/-- The twelve operations. The five packet classes carry every descriptor bit that their class leaves open, so that no bit
of an encoding is dropped: `id`, `crc`, and for PKT.HDR_ERR bit 33 (`xs` is 1 or 3, R66 line 1). -/
inductive Instr where
  /-- NOP, control or reader port (R84). -/
  | nop
  /-- READ_FRAME, control port (R81). -/
  | readFrame
  /-- RESYNC_REQ, control port (R82). -/
  | resyncReq
  /-- CFG_WRITE with S, P and L, control port (R83). -/
  | cfgWrite (spf : SegIdx) (pps : PktIdx) (len : PayLen)
  /-- RD_ACQUIRE, reader port (R130). -/
  | rdAcquire
  /-- RD_RELEASE, reader port (R131). -/
  | rdRelease
  /-- FB_READ with buf and off, reader port (R132). -/
  | fbRead (buf : BufIdx) (off : Half)
  /-- PKT.HDR_ERR: the header transfer failed (R101); `xsHi` is descriptor bit 33. -/
  | pktHdrErr (xsHi : BitVec 1) (id crc : Half)
  /-- PKT.DISCARD: a discard packet (R102). -/
  | pktDiscard (id crc : Half)
  /-- PKT.DISCARD_PAYERR: a discard packet whose payload transfer failed (R103). -/
  | pktDiscardPayerr (id crc : Half)
  /-- PKT.VIDEO: any other packet (R104). -/
  | pktVideo (id crc : Half)
  /-- PKT.VIDEO_PAYERR: any other packet whose payload transfer failed (R105). -/
  | pktVideoPayerr (id crc : Half)
  deriving DecidableEq, Repr

end Sys2Proof
end

