-- ==== Sys2Proof/Machine/Operands.lean ====
section
/-! DEFINITION. The operand forms of SPR: the fields of the ID word, the discard predicate, the slot map, the flat frame-store
address, the elapsed time, the geometry test, and which values the static parameters may have. All of them work on plain values
and the static parameters, none reads the state. -/

namespace Sys2Proof.Machine

/-- `IsDiscard(id) = ((id & DISCARD_MASK) == DISCARD_MATCH)`, the and taken first (30_encoding.md R66, 00_scope.md R7,
90_conflicts.md C1 and C2). -/
def isDiscard (p : Params) (id : Half) : Bool := (id &&& p.discardMask) == p.discardMatch

/-- The slice `v[hi:lo]` as an unsigned integer (00_scope.md R6). -/
def slice (v : Half) (hi lo : Nat) : Nat := (v.extractLsb' lo (hi + 1 - lo)).toNat

/-- `SEQ(id) = id[SEQ_HI:SEQ_LO]` (R4, R65). -/
def seqOf (p : Params) (id : Half) : Nat := slice id p.seqHi p.seqLo

/-- `TAG(id) = id[TAG_HI:TAG_LO]` (R4, R65). -/
def tagOf (p : Params) (id : Half) : Nat := slice id p.tagHi p.tagLo

/-- `SlotOffset(s, p) = ((s - 1) × cfg_pps + p) × cfg_len`, computed without truncation (20_memory.md R41). -/
def slotOffset (pps : PktIdx) (len : PayLen) (s : SegIdx) (p : PktIdx) : Nat :=
  ((s.toNat - 1) * pps.toNat + p.toNat) * len.toNat

/-- `FrameBytes = S × P × L` (00_scope.md R5). -/
def frameBytes (spf : SegIdx) (pps : PktIdx) (len : PayLen) : Nat :=
  spf.toNat * pps.toNat * len.toNat

/-- The linear byte address of `(buf, off)`: `buf × FRAME_MAX + off` (20_memory.md R49). -/
def linear (p : Params) (buf : BufIdx) (off : Nat) : Nat := buf.toNat * p.frameMax + off

/-- `Elapsed(now) = (now - resync_t0) mod 2^TIME_W` (40_control_ops.md R81). -/
def elapsed (p : Params) (now t0 : Time) : Nat := (((now : Int) - t0) % 2 ^ p.timeW).toNat

/-- The legality test of CFG_WRITE with the full product (40_control_ops.md R83; 10_state.md R11 to R13). -/
def legalGeometry (p : Params) (spf : SegIdx) (pps : PktIdx) (len : PayLen) : Bool :=
  p.legalLens.contains len.toNat
    && (decide (1 ≤ pps.toNat) && decide (pps.toNat ≤ Config.maxPps))
    && decide (1 ≤ spf.toNat)
    && decide (frameBytes spf pps len ≤ p.frameMax)

/-- The static parameters have values of their types in 92_eei_decisions.md section 1: positive widths, a cooldown below
2^TIME_W, buffers that an FB_READ offset can address, lengths that `cfg_len` can hold, slices of the ID word, no CRC check
and a legal reset geometry. -/
def legalParams (p : Params) : Bool :=
  decide (1 ≤ p.timeUnitMs) && decide (1 ≤ p.timeW) && decide (1 ≤ p.rcW) && decide (1 ≤ p.seqW)
    && decide (p.cooldown < 2 ^ p.timeW) && decide (p.frameMax ≤ 65536)
    && p.legalLens.all (fun n => decide (n ≤ 255))
    && decide (p.seqLo ≤ p.seqHi) && decide (p.seqHi ≤ 15)
    && decide (p.tagLo ≤ p.tagHi) && decide (p.tagHi ≤ 15)
    && !p.crcCheck && legalGeometry p p.resetSpf p.resetPps p.resetLen

end Sys2Proof.Machine
end

