-- ==== Sys2Proof/Machine/State.lean ====
section
/-! DEFINITION. The state of SPR: every element of 10_state.md R10, and beside them the model's own fields for what the spec
makes an input, a parameter or an output of a step (R4, R8, R28, R69, R70) and for the free values (U1, U2). State is plain
data. -/

namespace Sys2Proof.Machine

/-- The frame-sync state machine's state (R14). -/
inductive Fsm where
  | idle
  | reading
  deriving DecidableEq, Repr

/-- Why the current or last invocation ended (R21). Codes 6 and 7 are never produced, so they have no constructor
(U6; notes/assumptions/18). -/
inductive Cause where
  | none
  | cooling
  | firstDiscard
  | seqMismatch
  | tagMismatch
  | busError
  deriving DecidableEq, Repr

/-- The response to an operation word (R69). -/
inductive Resp where
  | ok
  | refused
  | illegal
  | fault
  deriving DecidableEq, Repr

/-- The return data of an operation word. There is none unless the response is OK (R69, U3; notes/assumptions/8). -/
inductive ReturnData where
  | none
  /-- RD_ACQUIRE: `r_idx` and `r_seq`. -/
  | acquired (rIdx : BufIdx) (rSeq : FrameSeq)
  /-- FB_READ: `r_byte`. -/
  | byte (rByte : Byte)
  deriving DecidableEq, Repr

/-- An event pulse with its arguments (R70). -/
inductive Event where
  /-- `done(status)`: CR0 after the step. -/
  | done (status : Half)
  /-- `frame_avail(seq)`: `frame_seq` after the step. -/
  | frameAvail (seq : FrameSeq)
  /-- `frame_dropped`. -/
  | frameDropped
  deriving DecidableEq, Repr

/-- MODEL'S OWN. What one step drives on its outputs: the response and return data of an operation word, and the event
pulses in the order they fire (R69, R70; notes/assumptions/4). -/
structure Outputs where
  resp : Option Resp
  ret : ReturnData
  events : List Event
  deriving DecidableEq, Repr

/-- No response and no event. -/
def Outputs.silent : Outputs := { resp := Option.none, ret := .none, events := [] }

/-- A port that may offer an operation word (R62, R165). Every consumer's port is a `reader` port: the block knows no
consumer's identity (R167; notes/assumptions/22). -/
inductive OpPort where
  | control
  | reader
  deriving DecidableEq, Repr

/-- The payload of a packet, one lane per byte; the packet's payload is the first `cfg_len` lanes
(R64, R68; notes/assumptions/19). -/
abbrev Payload := Vector Byte Config.maxLen

/-- MODEL'S OWN. The sidebands sampled by the step in progress (R28, R61, R64; notes/assumptions/3). -/
structure Sideband where
  port : OpPort
  now : Time
  payload : Payload
  deriving DecidableEq, Repr

/-- MODEL'S OWN. One input of the block: an operation word offered on a port, a packet delivered on the stream port, or the
RESET input (R28, R180). `now` is the running count of time units, of which a step samples the TIME_W low bits. -/
inductive Input where
  | op (port : OpPort) (word : Word) (now : Nat)
  | packet (desc : Desc) (payload : Payload) (now : Nat)
  | reset
  deriving DecidableEq, Repr

/-- The frame store's contents: (linear address, byte) pairs, addresses strictly rising. An unlisted address has not been
written since RESET (R26, R49, R58). -/
abbrev Memory := List Host.Cell

/-- The state. Fields down to `fb` are the elements of R10, in its order; the rest are the model's own. -/
structure State where
  /-- `cfg_len` (R11). -/
  cfgLen : PayLen
  /-- `cfg_pps` (R12). -/
  cfgPps : PktIdx
  /-- `cfg_spf` (R13). -/
  cfgSpf : SegIdx
  /-- `fsm` (R14). -/
  fsm : Fsm
  /-- `seg` (R15). -/
  seg : SegIdx
  /-- `pkt` (R16). -/
  pkt : PktIdx
  /-- `written` (R17). -/
  written : Bool
  /-- `resync_pending` (R18). -/
  resyncPending : Bool
  /-- `resync_t0` (R19). -/
  resyncT0 : Time
  /-- `complete` (R20). -/
  complete : Bool
  /-- `read_err` (R20). -/
  readErr : Bool
  /-- `bus_err` (R20). -/
  busErr : Bool
  /-- `cooling` (R20). -/
  cooling : Bool
  /-- `dropped` (R20). -/
  dropped : Bool
  /-- `cause` (R21). -/
  cause : Cause
  /-- `wr_idx` (R22). -/
  wrIdx : BufIdx
  /-- `rd_cnt` (R23). -/
  rdCnt : RdCount
  /-- `frame_seq` (R24). -/
  frameSeq : FrameSeq
  /-- `arb_fault` (R25). -/
  arbFault : Bool
  /-- `fb[0]` and `fb[1]` (R26), in the flat view of R49. -/
  fb : Memory
  /-- MODEL'S OWN. Which drawing of the unwritten bytes is in force (U1; notes/assumptions/6). -/
  fbDraw : Nat
  /-- MODEL'S OWN. How many payload errors have drawn slot bytes (U2; notes/assumptions/6). -/
  payErrDraw : Nat
  /-- MODEL'S OWN. The sidebands of the step in progress (notes/assumptions/3). -/
  sideband : Sideband
  /-- MODEL'S OWN. The inputs still to be performed, in serialization order (R134; notes/assumptions/1). -/
  inputs : List Input
  /-- MODEL'S OWN. The outputs of the last step (notes/assumptions/4). -/
  outputs : Outputs
  /-- MODEL'S OWN. The configuration argument: the static parameters of this machine (00_scope.md R4, R8). No step writes it
  (notes/assumptions/12). -/
  params : Params
  deriving DecidableEq, Repr

/-- Why a step stops with a fault. -/
inductive Fault where
  /-- Raised by PKT.VIDEO and PKT.VIDEO_PAYERR while READING in a state whose geometry or `(seg, pkt)` names no slot of the
  slot space (R40), so that no address to store to exists. Every reachable state names one (R33 items 4 and 5). SAFE: the
  model stops where the spec has no behaviour (notes/assumptions/10). -/
  | noSuchSlot
  deriving DecidableEq, Repr

/-- Why an instruction has no meaning. -/
inductive Refusal where
  /-- Raised by an arm of `exec` that has no meaning yet, named by its mnemonic. SAFE: the model stops. No arm raises it now. -/
  | notModelled (mnemonic : String)
  deriving DecidableEq, Repr

/-- What one operation answers. -/
abbrev Result := Host.Outcome State Fault Refusal

/-- The state of a machine with the parameters `p` right after RESET (70_reset_and_hazards.md R181): every element of the spec at the
value R181 gives, the frame store unwritten (R26), and the model's own fields at the values notes/assumptions/1, 3, 4 and 6
name. -/
def State.resetWith (p : Params) : State where
  cfgLen := p.resetLen
  cfgPps := p.resetPps
  cfgSpf := p.resetSpf
  fsm := .idle
  seg := 1#3
  pkt := 0#12
  written := false
  resyncPending := false
  resyncT0 := 0
  complete := false
  readErr := false
  busErr := false
  cooling := false
  dropped := false
  cause := .none
  wrIdx := 0#1
  rdCnt := 0
  frameSeq := 0
  arbFault := false
  fb := []
  fbDraw := 0
  payErrDraw := 0
  sideband := { port := .control, now := 0, payload := Vector.replicate Config.maxLen 0#8 }
  inputs := []
  outputs := Outputs.silent
  params := p

/-- The state after RESET of the reference hardware. -/
def State.reset : State := State.resetWith .reference

end Sys2Proof.Machine
end

