-- ==== Sys2Proof/Machine/Flags.lean ====
section
/-! DEFINITION. Flags and views: the cause codes, the six control-register views CR0 to CR5 (10_state.md R27), the derived outputs
(R29), and the updates of the result flags (R20, 60_exceptions.md R150). -/

namespace Sys2Proof.Machine

/-- The code of a cause (R21, R150). -/
def causeCode : Cause → BitVec 3
  | .none => 0#3
  | .cooling => 1#3
  | .firstDiscard => 2#3
  | .seqMismatch => 3#3
  | .tagMismatch => 4#3
  | .busError => 5#3

/-- The code of a response (R69). -/
def respCode : Resp → BitVec 2
  | .ok => 0#2
  | .refused => 1#2
  | .illegal => 2#2
  | .fault => 3#2

/-- The bit of `fsm`: IDLE = 0, READING = 1 (R14); it is also `stream_sel` (R29). -/
def fsmBit : Fsm → Bool
  | .idle => false
  | .reading => true

/-- `stream_sel` (R29). -/
def streamSel (s : State) : Bool := fsmBit s.fsm

/-- `pkt_ready` = `stream_sel` (R29). -/
def pktReady (s : State) : Bool := streamSel s

/-- `rd_idx` = `~wr_idx` (R29, R22). -/
def rdIdx (s : State) : BufIdx := ~~~s.wrIdx

/-- `outcome` = `{complete, written}` (R29). -/
def outcome (s : State) : BitVec 2 := BitVec.ofBool s.complete ++ BitVec.ofBool s.written

/-- CR0 STATUS, written from bit 15 down to bit 0 (R27). -/
def cr0 (s : State) : Half :=
  0#4 ++ BitVec.ofBool s.dropped ++ causeCode s.cause ++ BitVec.ofBool s.arbFault
    ++ BitVec.ofBool s.resyncPending ++ BitVec.ofBool s.cooling ++ BitVec.ofBool s.busErr
    ++ BitVec.ofBool s.readErr ++ BitVec.ofBool s.written ++ BitVec.ofBool s.complete
    ++ BitVec.ofBool (fsmBit s.fsm)

/-- CR1 POS (R27). -/
def cr1 (s : State) : Half := 0#1 ++ s.seg ++ s.pkt

/-- CR2 CFG (R27). -/
def cr2 (s : State) : Word := 0#9 ++ s.cfgSpf ++ s.cfgPps ++ s.cfgLen

/-- CR3 RESYNC_T0, 32 bits (R27; notes/assumptions/23). -/
def cr3 (s : State) : Word := BitVec.ofNat 32 s.resyncT0

/-- CR4 ARB, `rd_cnt` in 8 bits (R27; notes/assumptions/23). -/
def cr4 (s : State) : Half := 0#6 ++ rdIdx s ++ s.wrIdx ++ BitVec.ofNat 8 s.rdCnt

/-- CR5 FRAME_SEQ, 32 bits (R27; notes/assumptions/23). -/
def cr5 (s : State) : Word := BitVec.ofNat 32 s.frameSeq

/-- An accepted READ_FRAME clears the record of the previous invocation: `written`, the five result flags and `cause`
(R17, R20, R21, 40_control_ops.md R81). -/
def clearRecord (s : State) : State :=
  { s with
    written := false
    complete := false
    readErr := false
    busErr := false
    cooling := false
    dropped := false
    cause := .none }

/-- The record of a condition: its cause code, and the flag R150 names for it. -/
def recordCause (c : Cause) (s : State) : State :=
  match c with
  | .none => { s with cause := .none }
  | .cooling => { s with cause := .cooling, cooling := true }
  | .firstDiscard => { s with cause := .firstDiscard }
  | .seqMismatch => { s with cause := .seqMismatch, readErr := true }
  | .tagMismatch => { s with cause := .tagMismatch, readErr := true }
  | .busError => { s with cause := .busError, busErr := true }

end Sys2Proof.Machine
end

