-- ==== Sys2Proof/Machine/Memory.lean ====
section
/-! DEFINITION. The frame store: the form it is kept in, the read of one byte and the write of a run of bytes
(20_memory.md R42, R43, R49, R58). -/

namespace Sys2Proof.Machine

/-- What an address that is not listed reads as: no value, because nothing has written it since RESET (R26, R58). The byte a
consumer gets for it is the free value of `State.fbByte` (notes/assumptions/5). -/
def Memory.unlisted : Option Byte := none

/-- The byte at a linear address. -/
def Memory.read : Memory → Nat → Option Byte
  | [], _ => Memory.unlisted
  | (a, b) :: m, x => if a = x then some b else Memory.read m x

/-- The cells of the bytes `bs` laid out from address `a` upward. -/
def Memory.cells (a : Nat) : List Byte → Memory
  | [] => []
  | b :: bs => (a, b) :: Memory.cells (a + 1) bs

/-- `MemWrite` of the sequence `bs` at linear address `a`: the cells below, the new cells, the cells above (R42). -/
def Memory.write (m : Memory) (a : Nat) (bs : List Byte) : Memory :=
  m.filter (fun c => decide (c.1 < a)) ++ Memory.cells a bs
    ++ m.filter (fun c => decide (a + bs.length ≤ c.1))

/-- The canonical form: addresses strictly rising. No entry can equal what an unlisted address reads as, since that is no
value. -/
def Memory.wf (m : Memory) : Bool :=
  match m with
  | [] => true
  | [_] => true
  | c :: d :: rest => decide (c.1 < d.1) && Memory.wf (d :: rest)

/-- Every listed address is an address of a frame store of two buffers of `frameMax` bytes (R49: 0 to 2 × FRAME_MAX - 1). -/
def Memory.inBounds (frameMax : Nat) (m : Memory) : Bool := m.all fun c => decide (c.1 < 2 * frameMax)

/-- The byte at linear address `addr` as a reader gets it: the byte written last, or, if nothing has written it since RESET,
the free value drawn at that RESET and held (R43, R58, U1; notes/assumptions/5). -/
def State.fbByte (s : State) (addr : Nat) : Byte :=
  (s.fb.read addr).getD (Config.unwrittenByte s.fbDraw addr)

end Sys2Proof.Machine
end

