-- ==== Sys2Proof/Machine/Ops.lean ====
section
/-! DEFINITION. The shared operations: outputs, the port check, the resync request, the slot's store, ending an invocation (the
analogue of taking an exception, 60_exceptions.md R161) and starting one (the analogue of returning, R162), and the
micro-operations PUBLISH and Advance. -/

namespace Sys2Proof.Machine

/-- The step drives nothing on its outputs so far. -/
def State.quiet (s : State) : State := { s with outputs := Outputs.silent }

/-- `resp <- r`, with the return data `d` if there is any (30_encoding.md R69); no event has fired yet. -/
def State.answer (s : State) (r : Resp) (d : ReturnData := .none) : State :=
  { s with outputs := { resp := some r, ret := d, events := [] } }

/-- `emit e`: the pulse fires after those already fired in this step (R70). -/
def State.emit (s : State) (e : Event) : State :=
  { s with outputs := { s.outputs with events := s.outputs.events ++ [e] } }

/-- The ports that may issue an operation (30_encoding.md R62; 60_exceptions.md R165). No packet class is issued on a control
or reader port. -/
def mayIssue : OpPort → Instr → Bool
  | _, .nop => true
  | p, .readFrame => decide (p = .control)
  | p, .resyncReq => decide (p = .control)
  | p, .cfgWrite _ _ _ => decide (p = .control)
  | p, .rdAcquire => decide (p = .reader)
  | p, .rdRelease => decide (p = .reader)
  | p, .fbRead _ _ => decide (p = .reader)
  | _, .pktHdrErr _ _ _ => false
  | _, .pktDiscard _ _ => false
  | _, .pktDiscardPayerr _ _ => false
  | _, .pktVideo _ _ => false
  | _, .pktVideoPayerr _ _ => false

/-- The port check of 40_control_ops.md R80: on a port that may not issue the operation `resp <- ILLEGAL` and nothing else
happens; otherwise the operation's own rule applies. -/
def checkPort (i : Instr) (s : State) (rule : State → Result) : Result :=
  if mayIssue s.sideband.port i then rule s else .next (s.answer .illegal)

/-- A PKT.* step occurs only while `pkt_ready` (41_packet_ops.md R100): a descriptor offered in IDLE is not taken and changes
nothing (notes/assumptions/9). -/
def takePacket (s : State) (rule : State → Result) : Result :=
  if pktReady s then rule s.quiet else .next s.quiet

/-- A resync request: `resync_pending <- 1; resync_t0 <- now`, also when one is pending (10_state.md R18, R19). -/
def requestResync (s : State) : State :=
  { s with resyncPending := true, resyncT0 := s.sideband.now }

/-- The invocation's slot and the geometry exist: `(seg, pkt)` is in the slot space of 20_memory.md R40 and the geometry is one
that CFG_WRITE accepts (10_state.md R33 items 4 and 5). -/
def slotExists (s : State) : Bool :=
  legalGeometry s.params s.cfgSpf s.cfgPps s.cfgLen
    && decide (1 ≤ s.seg.toNat) && decide (s.seg.toNat ≤ s.cfgSpf.toNat)
    && decide (s.pkt.toNat < s.cfgPps.toNat)

/-- The linear address of the expected slot in the write buffer: `(wr_idx, SlotOffset(seg, pkt))` (20_memory.md R41, R42). -/
def slotAddr (s : State) : Nat :=
  linear s.params s.wrIdx (slotOffset s.cfgPps s.cfgLen s.seg s.pkt)

/-- The packet's payload: the first `cfg_len` lanes, first received first (30_encoding.md R64, 20_memory.md R45). -/
def payloadBytes (s : State) : List Byte := s.sideband.payload.toList.take s.cfgLen.toNat

/-- The bytes a failed payload transfer leaves in the slot: a free value for each (41_packet_ops.md R105, U2;
notes/assumptions/7). -/
def payErrBytes (s : State) : List Byte :=
  (List.range s.cfgLen.toNat).map (Config.payErrByte s.payErrDraw)

/-- `MemWrite` of `bs` to the expected slot, and `written <- 1` (41_packet_ops.md R104, R105). -/
def storeSlot (bs : List Byte) (s : State) : State :=
  { s with fb := s.fb.write (slotAddr s) bs, written := true }

/-- Finish: `fsm <- IDLE` and `done(CR0 after this step)` (41_packet_ops.md R108). -/
def finish (s : State) : State :=
  let s' := { s with fsm := Fsm.idle }
  s'.emit (.done (cr0 s'))

/-- Invalidate(c, now): record the desynchronization, request a resync, Finish (41_packet_ops.md R107). -/
def invalidate (c : Cause) (s : State) : State := finish (requestResync (recordCause c s))

/-- `raise`: THE ONE WAY AN INVOCATION ENDS ON A CONDITION (60_exceptions.md R161). The cause and its flag are recorded, SEQ_MISMATCH
and TAG_MISMATCH also request a resync, `fsm` goes to IDLE and `done` carries CR0 to the host; `(seg, pkt)`, the arbiter, the
geometry and the frame store stay as they are. -/
def raise (c : Cause) (s : State) : State :=
  match c with
  | .seqMismatch => invalidate .seqMismatch s
  | .tagMismatch => invalidate .tagMismatch s
  | .none => finish (recordCause .none s)
  | .cooling => finish (recordCause .cooling s)
  | .firstDiscard => finish (recordCause .firstDiscard s)
  | .busError => finish (recordCause .busError s)

/-- The other side of `raise`: there is no return operation, the next READ_FRAME starts over from slot `(1, 0)` with no
resync pending (60_exceptions.md R162; 40_control_ops.md R81). -/
def startInvocation (s : State) : State :=
  { s with resyncPending := false, fsm := .reading, seg := 1#3, pkt := 0#12 }

/-- A READ_FRAME would be suppressed: a resync is pending and its window has not passed (60_exceptions.md R151, R166). -/
def inCooldown (s : State) : Bool :=
  s.resyncPending && decide (elapsed s.params s.sideband.now s.resyncT0 < s.params.cooldown)

/-- `(frame_seq + 1) mod 2^SEQ_W` (R24, R133). -/
def nextSeq (s : State) : FrameSeq := (s.frameSeq + 1) % 2 ^ s.params.seqW

/-- PUBLISH: flip and count if no reader holds the read buffer, else drop the frame (42_arbiter_ops.md R133). -/
def publish (s : State) : State :=
  if s.rdCnt = 0 then
    ({ s with wrIdx := ~~~s.wrIdx, frameSeq := nextSeq s }).emit (.frameAvail (nextSeq s))
  else ({ s with dropped := true }).emit .frameDropped

/-- Advance: the next slot, or complete the frame, PUBLISH and Finish (41_packet_ops.md R106). -/
def advance (s : State) : State :=
  if s.pkt.toNat < s.cfgPps.toNat - 1 then { s with pkt := s.pkt + 1#12 }
  else if s.seg.toNat < s.cfgSpf.toNat then { s with seg := s.seg + 1#3, pkt := 0#12 }
  else finish (publish { s with complete := true })

/-- The RESET step (70_reset_and_hazards.md R180, R181): every element to its reset value, the frame store's bytes drawn anew
(R26, U1), no event. The counters of drawings go on, so that no later drawing repeats an earlier one, the inputs are the
environment's and the parameters the machine's (notes/assumptions/6, 12, 14). -/
def resetStep (s : State) : State :=
  { State.resetWith s.params with
    fbDraw := s.fbDraw + 1
    payErrDraw := s.payErrDraw
    sideband := s.sideband
    inputs := s.inputs }

end Sys2Proof.Machine
end

