-- ==== Sys2Proof/Machine/Arbiter.lean ====
section
/-! DEFINITION. The reader-port operations of the frame-buffer arbiter: RD_ACQUIRE, RD_RELEASE, FB_READ
(42_arbiter_ops.md R130 to R132). None of them reads `fsm`. -/

namespace Sys2Proof.Machine

/-- RD_ACQUIRE: the read index, the sequence number and one more reader, or REFUSED at the counter's limit (R130). -/
def execRdAcquire (s : State) : Result :=
  checkPort .rdAcquire s fun s =>
    if s.rdCnt = 2 ^ s.params.rcW - 1 then .next (s.answer .refused)
    else .next { s.answer .ok (.acquired (rdIdx s) s.frameSeq) with rdCnt := s.rdCnt + 1 }

/-- RD_RELEASE: one reader fewer, or ARB_FAULT when there is none (R131). -/
def execRdRelease (s : State) : Result :=
  checkPort .rdRelease s fun s =>
    if s.rdCnt = 0 then .next { s.answer .fault with arbFault := true }
    else .next { s.answer .ok with rdCnt := s.rdCnt - 1 }

/-- FB_READ: one byte of the frame store, ILLEGAL at an offset of FRAME_MAX or more (R132). -/
def execFbRead (buf : BufIdx) (off : Half) (s : State) : Result :=
  checkPort (.fbRead buf off) s fun s =>
    if off.toNat < s.params.frameMax then
      .next (s.answer .ok (.byte (s.fbByte (linear s.params buf off.toNat))))
    else .next (s.answer .illegal)

end Sys2Proof.Machine
end

