-- ==== Sys2Proof/Machine/Control.lean ====
section
/-! DEFINITION. The control-port operations: NOP, READ_FRAME, RESYNC_REQ, CFG_WRITE (40_control_ops.md R80 to R84). -/

namespace Sys2Proof.Machine

/-- NOP does nothing (R84). -/
def execNop (s : State) : Result :=
  checkPort .nop s fun s => .next (s.answer .ok)

/-- READ_FRAME starts one invocation, is answered by the cooldown, or is REFUSED while one runs (R81). -/
def execReadFrame (s : State) : Result :=
  checkPort .readFrame s fun s =>
    if s.fsm = .reading then .next (s.answer .refused)
    else
      let s := clearRecord (s.answer .ok)
      if inCooldown s then .next (raise .cooling s) else .next (startInvocation s)

/-- RESYNC_REQ records a resync request, or is REFUSED while READING (R82). -/
def execResyncReq (s : State) : Result :=
  checkPort .resyncReq s fun s =>
    if s.fsm = .reading then .next (s.answer .refused)
    else .next (requestResync (s.answer .ok))

/-- CFG_WRITE sets the geometry and requests a resync; the legality test comes before the state test (R83). -/
def execCfgWrite (spf : SegIdx) (pps : PktIdx) (len : PayLen) (s : State) : Result :=
  checkPort (.cfgWrite spf pps len) s fun s =>
    if legalGeometry s.params spf pps len then
      if s.fsm = .reading then .next (s.answer .refused)
      else .next (requestResync { s.answer .ok with cfgLen := len, cfgPps := pps, cfgSpf := spf })
    else .next (s.answer .illegal)

end Sys2Proof.Machine
end

