-- ==== Sys2Proof/Machine/Packet.lean ====
section
/-! DEFINITION. The stream-port operations: the five packet classes (41_packet_ops.md R100 to R109). -/

namespace Sys2Proof.Machine

/-- PKT.HDR_ERR: BUS_ERROR; `id`, `crc` and the payload are ignored (R101). -/
def execPktHdrErr (_xsHi : BitVec 1) (_id _crc : Half) (s : State) : Result :=
  takePacket s fun s => .next (raise .busError s)

/-- PKT.DISCARD: FIRST_DISCARD at slot `(1, 0)`, else the same slot is expected again (R102). -/
def execPktDiscard (_id _crc : Half) (s : State) : Result :=
  takePacket s fun s =>
    if s.seg = 1#3 ∧ s.pkt = 0#12 then .next (raise .firstDiscard s) else .next s

/-- PKT.DISCARD_PAYERR: BUS_ERROR, before the first-slot test (R103). -/
def execPktDiscardPayerr (_id _crc : Half) (s : State) : Result :=
  takePacket s fun s => .next (raise .busError s)

/-- What follows the store of a video packet: the sequence number, then at `TAG_IDX` the tag, then Advance (R104, R109). -/
def validatePacket (id : Half) (s : State) : State :=
  if seqOf s.params id ≠ s.pkt.toNat then raise .seqMismatch s
  else if s.pkt.toNat = s.params.tagIdx ∧ tagOf s.params id = 0 then { s with pkt := 0#12 }
  else if s.pkt.toNat = s.params.tagIdx ∧ tagOf s.params id ≠ s.seg.toNat then raise .tagMismatch s
  else advance s

/-- PKT.VIDEO: store the payload in the expected slot, then validate (R104). -/
def execPktVideo (id _crc : Half) (s : State) : Result :=
  takePacket s fun s =>
    if slotExists s then .next (validatePacket id (storeSlot (payloadBytes s) s)) else .fault .noSuchSlot

/-- PKT.VIDEO_PAYERR: the slot's bytes become free values, `written <- 1`, BUS_ERROR (R105). -/
def execPktVideoPayerr (_id _crc : Half) (s : State) : Result :=
  takePacket s fun s =>
    if slotExists s then
      .next (raise .busError { storeSlot (payErrBytes s) s with payErrDraw := s.payErrDraw + 1 })
    else .fault .noSuchSlot

end Sys2Proof.Machine
end

