-- ==== Sys2Proof/Machine/Dispatch.lean ====
section
/-! DEFINITION. The meaning of every operation, one arm per constructor of `Instr`. -/

namespace Sys2Proof.Machine

def exec (i : Instr) (s : State) : Host.Outcome State Fault Refusal :=
  match i with
  | .nop => Sys2Proof.Machine.execNop s
  | .readFrame => Sys2Proof.Machine.execReadFrame s
  | .resyncReq => Sys2Proof.Machine.execResyncReq s
  | .cfgWrite spf pps len => Sys2Proof.Machine.execCfgWrite spf pps len s
  | .rdAcquire => Sys2Proof.Machine.execRdAcquire s
  | .rdRelease => Sys2Proof.Machine.execRdRelease s
  | .fbRead buf off => Sys2Proof.Machine.execFbRead buf off s
  | .pktHdrErr xsHi id crc => Sys2Proof.Machine.execPktHdrErr xsHi id crc s
  | .pktDiscard id crc => Sys2Proof.Machine.execPktDiscard id crc s
  | .pktDiscardPayerr id crc => Sys2Proof.Machine.execPktDiscardPayerr id crc s
  | .pktVideo id crc => Sys2Proof.Machine.execPktVideo id crc s
  | .pktVideoPayerr id crc => Sys2Proof.Machine.execPktVideoPayerr id crc s

end Sys2Proof.Machine
end

