-- ==== Sys2Proof/WellFormed.lean ====
section
/-! DEFINITION. Which terms of `Instr` are operations of SPR.

A packet class fixes its ID word's discard marker, which the static parameters give (30_encoding.md R66); every other operand may
take every value its field admits. CFG_WRITE out of range and FB_READ off the end are well formed: their own rules answer them ILLEGAL (R83, R132). -/

namespace Sys2Proof

/-- The check, one arm per constructor. -/
def Instr.wf (p : Params) : Instr → Bool
  | .nop => true
  | .readFrame => true
  | .resyncReq => true
  | .cfgWrite _ _ _ => true
  | .rdAcquire => true
  | .rdRelease => true
  | .fbRead _ _ => true
  | .pktHdrErr _ _ _ => true
  | .pktDiscard id _ => Machine.isDiscard p id
  | .pktDiscardPayerr id _ => Machine.isDiscard p id
  | .pktVideo id _ => !Machine.isDiscard p id
  | .pktVideoPayerr id _ => !Machine.isDiscard p id

/-- The check as a decidable proposition. -/
abbrev Instr.WellFormed (p : Params) (i : Instr) : Prop := i.wf p = true

end Sys2Proof
end

