-- ==== Sys2Proof/Decode.lean ====
section
/-! DEFINITION. The decoder and, after it, the encoder, both written from 30_encoding.md R61 to R67.

SPR has no instruction stream: it decodes a 32-bit operation word offered on a control or reader port, or a 34-bit packet
descriptor delivered on the stream port. Decoding a word is total and rejects by name; decoding a descriptor always
gives an operation (R66). -/

namespace Sys2Proof

/-- What is decoded: an operation word (format OPW) or a packet descriptor (format PD). -/
inductive Encoded where
  | opw (w : Word)
  | pd (d : Desc)
  deriving DecidableEq, Repr

/-- Why an operation word is no operation (R67). -/
inductive DecodeError where
  /-- `opc` is 0x7 to 0xF. -/
  | reservedOpcode
  /-- A bit that R62 or R63 says must be 0 is 1. -/
  | mustBeZero
  deriving DecidableEq, Repr

/-- What decoding answers. -/
inductive Decoded where
  | instr (i : Instr)
  | rejected (why : DecodeError)
  deriving DecidableEq, Repr

/-- `opc`, bits 31:28 of an operation word (R61). -/
def opcOf (w : Word) : BitVec 4 := w.extractLsb' 28 4

/-- The operand bits 27:0 of an operation word (R61). -/
def operandBits (w : Word) : BitVec 28 := w.extractLsb' 0 28

/-- An operation whose must-be-zero field has been read as `zero` (R67). -/
def ifZero {n : Nat} (zero : BitVec n) (i : Instr) : Decoded :=
  if zero = 0#n then .instr i else .rejected .mustBeZero

/-- The operation word: opcode map R62, operand fields R63, reserved forms R67. -/
def decodeOpw (w : Word) : Decoded :=
  match (opcOf w).toNat with
  | 0 => ifZero (operandBits w) .nop
  | 1 => ifZero (operandBits w) .readFrame
  | 2 => ifZero (operandBits w) .resyncReq
  | 3 => ifZero (w.extractLsb' 23 5)
      (.cfgWrite (w.extractLsb' 20 3) (w.extractLsb' 8 12) (w.extractLsb' 0 8))
  | 4 => ifZero (operandBits w) .rdAcquire
  | 5 => ifZero (operandBits w) .rdRelease
  | 6 => ifZero (w.extractLsb' 16 11) (.fbRead (w.extractLsb' 27 1) (w.extractLsb' 0 16))
  | _ => .rejected .reservedOpcode

/-- `xs`, bits 33:32 of a descriptor (R64). -/
def xsOf (d : Desc) : BitVec 2 := d.extractLsb' 32 2

/-- `id`, bits 31:16 of a descriptor (R64). -/
def idOf (d : Desc) : Half := d.extractLsb' 16 16

/-- `crc`, bits 15:0 of a descriptor (R64). -/
def crcOf (d : Desc) : Half := d.extractLsb' 0 16

/-- The packet descriptor: the five lines of R66, the first that matches wins; the discard predicate is the parameters'. -/
def decodePd (p : Params) (d : Desc) : Instr :=
  if xsOf d = 1#2 ∨ xsOf d = 3#2 then .pktHdrErr (d.extractLsb' 33 1) (idOf d) (crcOf d)
  else if Machine.isDiscard p (idOf d) ∧ xsOf d = 2#2 then .pktDiscardPayerr (idOf d) (crcOf d)
  else if Machine.isDiscard p (idOf d) ∧ xsOf d = 0#2 then .pktDiscard (idOf d) (crcOf d)
  else if xsOf d = 2#2 then .pktVideoPayerr (idOf d) (crcOf d)
  else .pktVideo (idOf d) (crcOf d)

/-- Decoding of either format. -/
def decode (p : Params) : Encoded → Decoded
  | .opw w => decodeOpw w
  | .pd d => .instr (decodePd p d)

/-- An operation word from its fields: `opc` in bits 31:28, operands below (R61). -/
def opwOf (opc : BitVec 4) (operands : BitVec 28) : Encoded := .opw (opc ++ operands)

/-- A packet descriptor from its fields (R64). -/
def pdOf (xs : BitVec 2) (id crc : Half) : Encoded := .pd (xs ++ id ++ crc)

/-- The encoding of an operation (R62, R63, R64). -/
def encode : Instr → Encoded
  | .nop => opwOf 0x0#4 0#28
  | .readFrame => opwOf 0x1#4 0#28
  | .resyncReq => opwOf 0x2#4 0#28
  | .cfgWrite spf pps len => opwOf 0x3#4 (0#5 ++ spf ++ pps ++ len)
  | .rdAcquire => opwOf 0x4#4 0#28
  | .rdRelease => opwOf 0x5#4 0#28
  | .fbRead buf off => opwOf 0x6#4 (buf ++ 0#11 ++ off)
  | .pktHdrErr xsHi id crc => pdOf (xsHi ++ 1#1) id crc
  | .pktDiscard id crc => pdOf 0#2 id crc
  | .pktDiscardPayerr id crc => pdOf 2#2 id crc
  | .pktVideo id crc => pdOf 0#2 id crc
  | .pktVideoPayerr id crc => pdOf 2#2 id crc

/-- The transport's assembly of a descriptor from the four header bytes in the order they are transferred: `id[15:8]`,
`id[7:0]`, `crc[15:8]`, `crc[7:0]` (20_memory.md R44; notes/assumptions/13). -/
def descOfHeader (xs : BitVec 2) (b0 b1 b2 b3 : Byte) : Desc := xs ++ (b0 ++ b1) ++ (b2 ++ b3)

/-- The instruction the decoder reads from an instruction whose bits are `w`, numbered as spec/opcode_table.json numbers them.
A row of at most 32 bits is an operation word, a wider row is a 34-bit packet descriptor (notes/assumptions/21), classified at the
reference parameters, for which the table is written. -/
def decodeTableWord (nbits w : Nat) : Option Instr :=
  if nbits ≤ 32 then
    if w < 2 ^ 32 then
      match decodeOpw (BitVec.ofNat 32 w) with
      | .instr i => some i
      | .rejected _ => none
    else none
  else if w < 2 ^ 34 then some (decodePd .reference (BitVec.ofNat 34 w))
  else none

end Sys2Proof
end

