-- ==== Sys2Proof/Machine/Fetch.lean ====
section
/-! DEFINITION. How a step takes its input. SPR fetches nothing from memory (20_memory.md R40): its next operation is the next
input in the serialization order (42_arbiter_ops.md R134; notes/assumptions/1). -/

namespace Sys2Proof.Machine

/-- What taking the next input gives. -/
inductive Fetched where
  /-- An operation to perform at the state with its sidebands sampled. -/
  | instr (i : Instr) (s : State)
  /-- The step is over: nothing was offered, the word was no operation, or RESET was asserted. -/
  | settled (s : State)
  deriving DecidableEq, Repr

/-- The time a step samples when the running count stands at `now`: its TIME_W low bits (R28). -/
def sampled (p : Params) (now : Nat) : Time := now % 2 ^ p.timeW

/-- An operation word offered on `port`: its sidebands are sampled and it is decoded; a word that is no operation is answered
ILLEGAL (40_control_ops.md R80). -/
def takeOp (port : OpPort) (w : Word) (now : Nat) (s : State) : Fetched :=
  let s' := { s with sideband := { s.sideband with port := port, now := sampled s.params now } }
  match decodeOpw w with
  | .instr i => .instr i s'
  | .rejected _ => .settled (s'.answer .illegal)

/-- A packet delivered on the stream port: its payload and `now` are sampled and its descriptor is decoded
(30_encoding.md R64, R66). -/
def takeDesc (d : Desc) (payload : Payload) (now : Nat) (s : State) : Fetched :=
  .instr (decodePd s.params d)
    { s with sideband := { s.sideband with now := sampled s.params now, payload := payload } }

/-- Take the next input. With nothing offered the block does nothing (notes/assumptions/2). -/
def fetch (s : State) : Fetched :=
  match s.inputs with
  | [] => .settled s.quiet
  | .op port w now :: rest => takeOp port w now { s with inputs := rest }
  | .packet d payload now :: rest => takeDesc d payload now { s with inputs := rest }
  | .reset :: rest => .settled (resetStep { s with inputs := rest })

/-- A port that may issue an operation word's opcode (R62). -/
def issuingPort (w : Word) : OpPort := if 4 ≤ (opcOf w).toNat then .reader else .control

/-- The input by which the instruction whose table bits are `w` reaches the block: a word of at most 32 bits on a port that may
issue it, a descriptor with a payload of zeros (notes/assumptions/11). -/
def inputOfTableWord (nbits w : Nat) (now : Nat) : Input :=
  if nbits ≤ 32 then .op (issuingPort (BitVec.ofNat 32 w)) (BitVec.ofNat 32 w) now
  else .packet (BitVec.ofNat 34 w) (Vector.replicate Config.maxLen 0#8) now

/-- Offer that input as the next one; a descriptor is taken only while READING (R100), so `fsm` is READING for it. -/
def offerTableWord (s : State) (nbits w : Nat) : State :=
  { s with
    inputs := inputOfTableWord nbits w s.sideband.now :: s.inputs
    fsm := if nbits ≤ 32 then s.fsm else .reading }

end Sys2Proof.Machine
end

