-- ==== Sys2Proof/Machine/Step.lean ====
section
/-! DEFINITION. One step: take the next input and perform it (00_scope.md R2). -/

namespace Sys2Proof.Machine

/-- One step of the block: next, fault or refusal. -/
def step (s : State) : Host.Outcome State Fault Refusal :=
  match fetch s with
  | .instr i s' => exec i s'
  | .settled s' => .next s'

/-- `s` with the instruction of `w` placed so that the very next step performs exactly it (notes/assumptions/11). -/
def State.withFetchWord (s : State) (nbits w : Nat) : State := offerTableWord s nbits w

end Sys2Proof.Machine
end

