-- ==== Sys2Proof/Machine/Pseudo.lean ====
section
/-! DEFINITION. The pseudo-operations VID, DISC and FRAME of 30_encoding.md R72, as the inputs they stand for. They have no encoding
and no meaning of their own. -/

namespace Sys2Proof.Machine

/-- `fill(b, n)` on a packet's lanes: every payload byte is `b` (00_scope.md R6). -/
def fill (b : Byte) : Payload := Vector.replicate Config.maxLen b

/-- The ID word of a well-formed video packet for slot `(s, p)`: `p`, with the tag `s` in bits 14:12 at `TAG_IDX` (R72). -/
def vidId (P : Params) (s : SegIdx) (p : PktIdx) : Half :=
  if p.toNat = P.tagIdx then 0#1 ++ s ++ p else 0#4 ++ p

/-- `VID(s, p, b) @t` (R72). -/
def vid (P : Params) (s : SegIdx) (p : PktIdx) (b : Byte) (t : Nat) : Input :=
  .packet (0#2 ++ vidId P s p ++ 0#16) (fill b) t

/-- `DISC @t` (R72). -/
def disc (t : Nat) : Input := .packet (0#2 ++ 0x0F00#16 ++ 0#16) (fill 0#8) t

/-- `FRAME(b) @t` at the geometry `S`, `P`: READ_FRAME, then one valid packet per slot in slot order (R72). -/
def frame (P : Params) (spf : SegIdx) (pps : PktIdx) (b : Byte) (t : Nat) : List Input :=
  .op .control 0x10000000#32 t
    :: (List.range (spf.toNat * pps.toNat)).map fun k =>
      vid P (BitVec.ofNat 3 (k / pps.toNat + 1)) (BitVec.ofNat 12 (k % pps.toNat)) b t

end Sys2Proof.Machine
end

