-- ==== Sys2Proof/Safety.lean ====
section
/-! DEFINITION. The terms in which claims about runs are stated: the invariants of every reachable state, runs of steps, and the
counts of acquisitions, releases and RESETs in a run. -/

namespace Sys2Proof.Machine

/-- The invariants of 10_state.md R33 that speak of one state (items 1 to 5 and 9 and the range of item 6), the form of the frame
store, and the ranges of the static parameters and of the numbers whose widths they give. What items 6 to 8 say of steps is
said by statements about `step`. -/
structure State.Inv (s : State) : Prop where
  /-- R33 item 1. -/
  completeIsClean : s.complete = true →
    s.written = true ∧ s.cause = .none ∧ s.readErr = false ∧ s.busErr = false ∧ s.cooling = false
  /-- R33 item 2. -/
  coolingIsRecorded : s.cooling = true →
    s.written = false ∧ s.complete = false ∧ s.cause = .cooling ∧ s.resyncPending = true
  /-- R33 item 3. -/
  readErrIsDesync : s.readErr = true ↔ s.cause = .seqMismatch ∨ s.cause = .tagMismatch
  /-- R33 item 3. -/
  busErrIsCause : s.busErr = true ↔ s.cause = .busError
  /-- R33 item 3. -/
  droppedIsComplete : s.dropped = true → s.complete = true
  /-- R33 item 4, the slot. -/
  readingHasSlot : s.fsm = .reading →
    1 ≤ s.seg.toNat ∧ s.seg.toNat ≤ s.cfgSpf.toNat ∧ s.pkt.toNat < s.cfgPps.toNat
  /-- R33 item 4, the record. -/
  readingIsClean : s.fsm = .reading →
    s.cause = .none ∧ s.complete = false ∧ s.cooling = false ∧ s.readErr = false ∧ s.busErr = false
  /-- R33 item 5. -/
  geometryIsLegal : legalGeometry s.params s.cfgSpf s.cfgPps s.cfgLen = true
  /-- R33 item 9. -/
  readingHasNoResync : s.fsm = .reading → s.resyncPending = false
  /-- The frame store is in its canonical form. -/
  memoryIsCanonical : s.fb.wf = true
  /-- Every written byte is a byte of the frame store (20_memory.md R49). -/
  memoryIsInBounds : s.fb.inBounds s.params.frameMax = true
  /-- The static parameters have values of their types (92_eei_decisions.md section 1). -/
  paramsAreLegal : legalParams s.params = true
  /-- `resync_t0` has TIME_W bits (R19). -/
  requestTimeFits : s.resyncT0 < 2 ^ s.params.timeW
  /-- The sampled time has TIME_W bits (R28). -/
  nowFits : s.sideband.now < 2 ^ s.params.timeW
  /-- R33 item 6, the range of `rd_cnt`. -/
  readerCountFits : s.rdCnt < 2 ^ s.params.rcW
  /-- `frame_seq` has SEQ_W bits (R24). -/
  sequenceFits : s.frameSeq < 2 ^ s.params.seqW

/-- A state in which nothing has gone wrong: the invariants hold and no consumer has been caught breaking the counter protocol
(60_exceptions.md R157). -/
structure State.Safe (s : State) : Prop where
  inv : s.Inv
  noArbFault : s.arbFault = false

/-- `k` steps, stopping at a fault or a refusal. -/
def runSteps : Nat → State → Result
  | 0, s => .next s
  | k + 1, s =>
    match step s with
    | .next t => runSteps k t
    | .fault r => .fault r
    | .refused r => .refused r

/-- The operation the next step performs, if it performs one. -/
def performs (s : State) : Option Instr :=
  match fetch s with
  | .instr i _ => some i
  | .settled _ => none

/-- The next input is RESET. -/
def resetIsNext (s : State) : Bool := decide (s.inputs.head? = some .reset)

/-- The next input is a packet. -/
def packetIsNext (s : State) : Bool :=
  match s.inputs with
  | .packet _ _ _ :: _ => true
  | _ => false

/-- The step from `s` to `t` granted an RD_ACQUIRE (answered OK, 42_arbiter_ops.md R130). -/
def granted (s t : State) : Bool :=
  decide (performs s = some .rdAcquire) && decide (t.outputs.resp = some .ok)

/-- The step from `s` to `t` answered an RD_RELEASE with OK (42_arbiter_ops.md R131). -/
def released (s t : State) : Bool :=
  decide (performs s = some .rdRelease) && decide (t.outputs.resp = some .ok)

/-- How many of the first `k` steps from `s` satisfy `p`. -/
def countSteps (p : State → State → Bool) : Nat → State → Nat
  | 0, _ => 0
  | k + 1, s =>
    match step s with
    | .next t => (p s t).toNat + countSteps p k t
    | .fault _ => 0
    | .refused _ => 0

/-- Granted RD_ACQUIREs in the first `k` steps. -/
def grants : Nat → State → Nat := countSteps granted

/-- RD_RELEASEs answered OK in the first `k` steps. -/
def releases : Nat → State → Nat := countSteps released

/-- RESET steps among the first `k` steps. -/
def resets : Nat → State → Nat := countSteps fun s _ => resetIsNext s

/-- Every byte of the frame store reads as before. -/
def SameBytes (s t : State) : Prop := ∀ addr, t.fbByte addr = s.fbByte addr

/-- Every byte outside the `n` bytes at linear address `a` reads as before. -/
def SameBytesOutside (a n : Nat) (s t : State) : Prop :=
  ∀ addr, addr < a ∨ a + n ≤ addr → t.fbByte addr = s.fbByte addr

/-- The geometry registers are unchanged. -/
def SameGeometry (s t : State) : Prop :=
  t.cfgLen = s.cfgLen ∧ t.cfgPps = s.cfgPps ∧ t.cfgSpf = s.cfgSpf

/-- The sequencing state `(fsm, seg, pkt)` is unchanged (10_state.md R31). -/
def SameSequencing (s t : State) : Prop := t.fsm = s.fsm ∧ t.seg = s.seg ∧ t.pkt = s.pkt

/-- The record of the current or last invocation is unchanged. -/
def SameRecord (s t : State) : Prop :=
  t.written = s.written ∧ t.complete = s.complete ∧ t.readErr = s.readErr ∧ t.busErr = s.busErr
    ∧ t.cooling = s.cooling ∧ t.dropped = s.dropped ∧ t.cause = s.cause

/-- The resync request is unchanged. -/
def SameResync (s t : State) : Prop :=
  t.resyncPending = s.resyncPending ∧ t.resyncT0 = s.resyncT0

/-- The arbitration state is unchanged. -/
def SameArbiter (s t : State) : Prop :=
  t.wrIdx = s.wrIdx ∧ t.rdCnt = s.rdCnt ∧ t.frameSeq = s.frameSeq ∧ t.arbFault = s.arbFault

/-- The static parameters, the pending inputs, the sampled sidebands and the drawing in force are unchanged. -/
def SameInputs (s t : State) : Prop :=
  t.params = s.params ∧ t.inputs = s.inputs ∧ t.sideband = s.sideband ∧ t.fbDraw = s.fbDraw

end Sys2Proof.Machine
end

