-- ==== Sys2Proof/Certificates/Slice0/Obligations.lean ====
section
/-! DEFINITION. The statements for the provers, in the order of OBLIGATIONS.json: encodings, the step, reset and views, the control
operations, the packet operations, the arbiter, and the rules about the whole machine. -/

open Sys2Proof Sys2Proof.Machine

/-! ### Encodings -/

/-- The parameters of the machine `State.reset` starts are the values 00_scope.md R4 fixes for the reference hardware, and with them
the fields of the ID word are `SEQ(id) = id[11:0]` and `TAG(id) = id[14:12]` (30_encoding.md R65). -/
def Obligations.ReferenceParametersAreTheSpecs : Prop :=
  State.reset.params = Params.reference ∧ legalParams Params.reference = true
  ∧ Params.reference.tagIdx = 20 ∧ Params.reference.cooldown = 185
  ∧ Params.reference.timeUnitMs = 1 ∧ Params.reference.timeW = 32
  ∧ Params.reference.discardMask = 0xFF00#16 ∧ Params.reference.discardMatch = 0x0F00#16
  ∧ Params.reference.seqHi = 11 ∧ Params.reference.seqLo = 0
  ∧ Params.reference.tagHi = 14 ∧ Params.reference.tagLo = 12
  ∧ Params.reference.rcW = 8 ∧ Params.reference.seqW = 32 ∧ Params.reference.frameMax = 57600
  ∧ Params.reference.legalLens = [160, 240] ∧ Params.reference.crcCheck = false
  ∧ ∀ id : Half, seqOf .reference id = (id.extractLsb' 0 12).toNat
      ∧ tagOf .reference id = (id.extractLsb' 12 3).toNat

/-- Decoding the encoding of a well-formed operation gives it back, whatever the static parameters (30_encoding.md R61 to R66). -/
def Obligations.EncodedOperationsDecodeBack : Prop :=
  ∀ (p : Params) (i : Instr), i.WellFormed p → decode p (encode i) = .instr i

/-- Every word or descriptor that decodes is the encoding of the operation it decodes to, and that operation is well formed: each
operation has one encoding, whatever the static parameters (30_encoding.md R61 to R66). -/
def Obligations.DecodedEncodingsEncodeBack : Prop :=
  ∀ (p : Params) (e : Encoded) (i : Instr),
    decode p e = .instr i → i.WellFormed p ∧ encode i = e

/-- Words written out from the spec's encodings decode to the operations they stand for, one for every row of the opcode table, at
the reference parameters (30_encoding.md R62 to R66; 95_test_vectors.md V1, V4). -/
def Obligations.SpecWordsDecodeAsWritten : Prop :=
  let decode := Sys2Proof.decode .reference
  decode (.opw 0x00000000#32) = .instr .nop
  ∧ decode (.opw 0x10000000#32) = .instr .readFrame
  ∧ decode (.opw 0x20000000#32) = .instr .resyncReq
  ∧ decode (.opw 0x30403CA0#32) = .instr (.cfgWrite 4#3 60#12 160#8)
  ∧ decode (.opw 0x40000000#32) = .instr .rdAcquire
  ∧ decode (.opw 0x50000000#32) = .instr .rdRelease
  ∧ decode (.opw 0x68000123#32) = .instr (.fbRead 1#1 0x0123#16)
  ∧ decode (.opw 0x30803CA0#32) = .rejected .mustBeZero
  ∧ decode (.opw 0x70000000#32) = .rejected .reservedOpcode
  ∧ decode (.pd 0x00F00BEEF#34) = .instr (.pktDiscard 0x0F00#16 0xBEEF#16)
  ∧ decode (.pd 0x20F000000#34) = .instr (.pktDiscardPayerr 0x0F00#16 0x0000#16)
  ∧ decode (.pd 0x020140000#34) = .instr (.pktVideo 0x2014#16 0x0000#16)
  ∧ decode (.pd 0x200050000#34) = .instr (.pktVideoPayerr 0x0005#16 0x0000#16)
  ∧ decode (.pd 0x300000000#34) = .instr (.pktHdrErr 1#1 0x0000#16 0x0000#16)

/-- The classification of a descriptor, the five lines of 30_encoding.md R66 with the discard predicate written out, for every mask
and match; at the reference parameters the predicate is that bits 15:12 are 0 and bits 11:8 are 0xF. -/
def Obligations.DescriptorsClassifyByFirstMatch : Prop :=
  ∀ (p : Params) (d : Desc),
    let xs := d.extractLsb' 32 2
    let id := d.extractLsb' 16 16
    let crc := d.extractLsb' 0 16
    let discard := (id &&& p.discardMask) = p.discardMatch
    (xs = 1#2 → decodePd p d = .pktHdrErr 0#1 id crc)
    ∧ (xs = 3#2 → decodePd p d = .pktHdrErr 1#1 id crc)
    ∧ (discard ∧ xs = 2#2 → decodePd p d = .pktDiscardPayerr id crc)
    ∧ (discard ∧ xs = 0#2 → decodePd p d = .pktDiscard id crc)
    ∧ (¬ discard ∧ xs = 2#2 → decodePd p d = .pktVideoPayerr id crc)
    ∧ (¬ discard ∧ xs = 0#2 → decodePd p d = .pktVideo id crc)
    ∧ (p = .reference →
        (discard ↔ id.extractLsb' 12 4 = 0x0#4 ∧ id.extractLsb' 8 4 = 0xF#4))

/-- The acceptance test of 40_control_ops.md R80, with the ports of R62 and the must-be-zero fields of R62 and R63 written out: a
word that fails it is answered ILLEGAL, changes no element of the state and fires no event; any other word is an operation
that the port may issue, and the operation's own rule applies. -/
def Obligations.MalformedOrMisplacedWordsAreIllegal : Prop :=
  ∀ (s : State) (port : OpPort) (w : Word) (now : Nat) (rest : List Input),
    s.inputs = .op port w now :: rest →
    let opc := (w.extractLsb' 28 4).toNat
    let illegal :=
      7 ≤ opc
      ∨ (port = .reader ∧ 1 ≤ opc ∧ opc ≤ 3) ∨ (port = .control ∧ 4 ≤ opc ∧ opc ≤ 6)
      ∨ ((opc ≤ 2 ∨ opc = 4 ∨ opc = 5) ∧ w.extractLsb' 0 28 ≠ 0#28)
      ∨ (opc = 3 ∧ w.extractLsb' 23 5 ≠ 0#5) ∨ (opc = 6 ∧ w.extractLsb' 16 11 ≠ 0#11)
    (illegal → step s = .next
      { s with
        inputs := rest
        sideband := { s.sideband with port := port, now := now % 2 ^ s.params.timeW }
        outputs := { resp := some .illegal, ret := .none, events := [] } })
    ∧ (¬ illegal → ∃ i, decodeOpw w = .instr i ∧ mayIssue port i = true ∧ step s = exec i
      { s with
        inputs := rest
        sideband := { s.sideband with port := port, now := now % 2 ^ s.params.timeW } })

/-- The transport's assembly of the header: byte 0 is `id[15:8]`, byte 1 `id[7:0]`, byte 2 `crc[15:8]`, byte 3 `crc[7:0]`. The spec
marks this byte order as general knowledge that it adopts (20_memory.md R44, 93_implementation_defined.md G1;
notes/assumptions/13). -/
def Obligations.HeaderBytesAreBigEndian : Prop :=
  ∀ (xs : BitVec 2) (b0 b1 b2 b3 : Byte),
    let d := descOfHeader xs b0 b1 b2 b3
    (idOf d).extractLsb' 8 8 = b0 ∧ (idOf d).extractLsb' 0 8 = b1
    ∧ (crcOf d).extractLsb' 8 8 = b2 ∧ (crcOf d).extractLsb' 0 8 = b3 ∧ xsOf d = xs

/-! ### The step -/

/-- When an operation word is offered next and decodes to `i`, the step is the meaning of `i` at the state with the input taken and
its port and time, TIME_W bits of it, sampled (00_scope.md R2, 10_state.md R28). -/
def Obligations.StepPerformsOfferedOperation : Prop :=
  ∀ (s : State) (port : OpPort) (w : Word) (now : Nat) (rest : List Input) (i : Instr),
    s.inputs = .op port w now :: rest → decode s.params (.opw w) = .instr i →
    step s = exec i
      { s with
        inputs := rest
        sideband := { s.sideband with port := port, now := now % 2 ^ s.params.timeW } }

/-- When a packet is delivered next, the step is the meaning of the class its descriptor decodes to, at the state with the input
taken and its payload and time sampled (00_scope.md R2, 10_state.md R28, 41_packet_ops.md R100). -/
def Obligations.StepPerformsDeliveredPacket : Prop :=
  ∀ (s : State) (d : Desc) (payload : Payload) (now : Nat) (rest : List Input) (i : Instr),
    s.inputs = .packet d payload now :: rest → decode s.params (.pd d) = .instr i →
    step s = exec i
      { s with
        inputs := rest
        sideband := { s.sideband with now := now % 2 ^ s.params.timeW, payload := payload } }

/-- With nothing offered a step changes nothing and drives nothing. THE MODEL'S CHOICE (notes/assumptions/2): the spec has no such
step. -/
def Obligations.StepWithNothingOfferedChangesNothing : Prop :=
  ∀ s : State, s.inputs = [] →
    step s = .next { s with outputs := { resp := none, ret := .none, events := [] } }

/-- The RESET step in any state (70_reset_and_hazards.md R181): every element to its reset value, no event, and the derived outputs
as listed. The frame store, which R181 leaves unspecified, is `ResetDrawsTheFrameStoreAnew`. -/
def Obligations.ResetStepRestoresEveryElement : Prop :=
  ∀ (s : State) (rest : List Input), s.inputs = .reset :: rest →
    ∃ t, step s = .next t
      ∧ t.cfgLen = s.params.resetLen ∧ t.cfgPps = s.params.resetPps
      ∧ t.cfgSpf = s.params.resetSpf
      ∧ (s.params = .reference → t.cfgLen = 160#8 ∧ t.cfgPps = 60#12 ∧ t.cfgSpf = 4#3)
      ∧ t.fsm = .idle ∧ t.seg = 1#3 ∧ t.pkt = 0#12 ∧ t.written = false
      ∧ t.resyncPending = false ∧ t.resyncT0 = 0
      ∧ t.complete = false ∧ t.readErr = false ∧ t.busErr = false ∧ t.cooling = false
      ∧ t.dropped = false ∧ t.cause = .none
      ∧ t.wrIdx = 0#1 ∧ t.rdCnt = 0 ∧ t.frameSeq = 0 ∧ t.arbFault = false
      ∧ t.outputs.resp = none ∧ t.outputs.events = []
      ∧ streamSel t = false ∧ pktReady t = false ∧ outcome t = 0b00#2 ∧ rdIdx t = 1#1

/-- After a RESET step every byte of the frame store is a free value, of a drawing that was not in force before, and the inputs
behind the RESET stay offered. THE MODEL'S FORM of the unspecified content (93_implementation_defined.md U1,
notes/assumptions/5 and 6) and of the inputs (notes/assumptions/1). -/
def Obligations.ResetDrawsTheFrameStoreAnew : Prop :=
  ∀ (s : State) (rest : List Input), s.inputs = .reset :: rest →
    ∃ t, step s = .next t ∧ t.inputs = rest ∧ t.payErrDraw = s.payErrDraw
      ∧ t.fbDraw = s.fbDraw + 1 ∧ ∀ addr, t.fbByte addr = Config.unwrittenByte t.fbDraw addr

/-! ### Reset and views -/

/-- The six control-register views show the elements as 10_state.md R27 arranges them, with the cause codes of R21, reserved bits read
0, and after reset they have the values R27 gives. A number that fits the bits R27 gives it, as it does at the reference
widths, is shown whole. -/
def Obligations.ControlRegistersShowTheElements : Prop :=
  (∀ s : State,
    (cr0 s).getLsbD 0 = decide (s.fsm = .reading) ∧ (cr0 s).getLsbD 1 = s.complete
    ∧ (cr0 s).getLsbD 2 = s.written ∧ (cr0 s).getLsbD 3 = s.readErr
    ∧ (cr0 s).getLsbD 4 = s.busErr ∧ (cr0 s).getLsbD 5 = s.cooling
    ∧ (cr0 s).getLsbD 6 = s.resyncPending ∧ (cr0 s).getLsbD 7 = s.arbFault
    ∧ (cr0 s).extractLsb' 8 3 = causeCode s.cause ∧ (cr0 s).getLsbD 11 = s.dropped
    ∧ (cr0 s).extractLsb' 12 4 = 0#4
    ∧ (cr1 s).extractLsb' 0 12 = s.pkt ∧ (cr1 s).extractLsb' 12 3 = s.seg
    ∧ (cr1 s).getLsbD 15 = false
    ∧ (cr2 s).extractLsb' 0 8 = s.cfgLen ∧ (cr2 s).extractLsb' 8 12 = s.cfgPps
    ∧ (cr2 s).extractLsb' 20 3 = s.cfgSpf ∧ (cr2 s).extractLsb' 23 9 = 0#9
    ∧ (s.resyncT0 < 2 ^ 32 → (cr3 s).toNat = s.resyncT0)
    ∧ (s.rdCnt < 2 ^ 8 → ((cr4 s).extractLsb' 0 8).toNat = s.rdCnt)
    ∧ (cr4 s).extractLsb' 8 1 = s.wrIdx
    ∧ (cr4 s).extractLsb' 9 1 = ~~~s.wrIdx ∧ (cr4 s).extractLsb' 10 6 = 0#6
    ∧ (s.frameSeq < 2 ^ 32 → (cr5 s).toNat = s.frameSeq))
  ∧ causeCode .none = 0#3 ∧ causeCode .cooling = 1#3 ∧ causeCode .firstDiscard = 2#3
  ∧ causeCode .seqMismatch = 3#3 ∧ causeCode .tagMismatch = 4#3 ∧ causeCode .busError = 5#3
  ∧ cr0 State.reset = 0x0000#16 ∧ cr1 State.reset = 0x1000#16
  ∧ cr2 State.reset = 0x00403CA0#32 ∧ cr3 State.reset = 0#32
  ∧ cr4 State.reset = 0x0200#16 ∧ cr5 State.reset = 0#32

/-! ### Control-port operations -/

/-- NOP does nothing and is answered OK on either port; a NOP word with any other bit set is answered ILLEGAL and changes nothing
(40_control_ops.md R84). -/
def Obligations.NopChangesNothing : Prop :=
  (∀ s : State, exec .nop s =
    .next { s with outputs := { resp := some .ok, ret := .none, events := [] } })
  ∧ ∀ (s : State) (port : OpPort) (w : Word) (now : Nat) (rest : List Input),
      s.inputs = .op port w now :: rest →
      w.extractLsb' 28 4 = 0#4 → w.extractLsb' 0 28 ≠ 0#28 →
      step s = .next
        { s with
          inputs := rest
          sideband := { s.sideband with port := port, now := now % 2 ^ s.params.timeW }
          outputs := { resp := some .illegal, ret := .none, events := [] } }

/-- READ_FRAME on the control port (40_control_ops.md R81): REFUSED while READING; answered COOLING while a resync is pending and
`(now - resync_t0) mod 2^TIME_W < COOLDOWN`; otherwise the invocation starts at slot `(1, 0)`. Nothing else changes. -/
def Obligations.ReadFrameFollowsItsRule : Prop :=
  ∀ s : State, s.sideband.port = .control →
    let since : Int := ((s.sideband.now : Int) - s.resyncT0) % 2 ^ s.params.timeW
    let suppressed := s.resyncPending = true ∧ since < s.params.cooldown
    (s.fsm = .reading → exec .readFrame s =
      .next { s with outputs := { resp := some .refused, ret := .none, events := [] } })
    ∧ (s.fsm = .idle → suppressed → ∃ t, exec .readFrame s = .next t ∧ t =
      { s with
        written := false, complete := false, readErr := false, busErr := false
        cooling := true, dropped := false, cause := .cooling
        outputs := { resp := some .ok, ret := .none, events := [.done (cr0 t)] } })
    ∧ (s.fsm = .idle → ¬ suppressed → exec .readFrame s = .next
      { s with
        written := false, complete := false, readErr := false, busErr := false
        cooling := false, dropped := false, cause := .none
        resyncPending := false, fsm := .reading, seg := 1#3, pkt := 0#12
        outputs := { resp := some .ok, ret := .none, events := [] } })

/-- RESYNC_REQ on the control port (40_control_ops.md R82): REFUSED while READING, otherwise the request and its time are recorded,
also when one is pending. -/
def Obligations.ResyncReqFollowsItsRule : Prop :=
  ∀ s : State, s.sideband.port = .control →
    (s.fsm = .reading → exec .resyncReq s =
      .next { s with outputs := { resp := some .refused, ret := .none, events := [] } })
    ∧ (s.fsm = .idle → exec .resyncReq s = .next
      { s with
        resyncPending := true, resyncT0 := s.sideband.now
        outputs := { resp := some .ok, ret := .none, events := [] } })

/-- CFG_WRITE on the control port (40_control_ops.md R83): ILLEGAL for operands outside the legal sets whatever `fsm` is, then REFUSED
while READING, otherwise the geometry is written and a resync requested. The legal lengths and FRAME_MAX are parameters; at
the reference values they are {160, 240} and 57600 (00_scope.md R4). -/
def Obligations.CfgWriteFollowsItsRule : Prop :=
  ∀ (spf : SegIdx) (pps : PktIdx) (len : PayLen) (s : State), s.sideband.port = .control →
    let legal :=
      len.toNat ∈ s.params.legalLens ∧ pps.toNat ≠ 0 ∧ pps.toNat ≤ 3840 ∧ spf.toNat ≠ 0
      ∧ spf.toNat * pps.toNat * len.toNat ≤ s.params.frameMax
    (¬ legal → exec (.cfgWrite spf pps len) s =
      .next { s with outputs := { resp := some .illegal, ret := .none, events := [] } })
    ∧ (legal → s.fsm = .reading → exec (.cfgWrite spf pps len) s =
      .next { s with outputs := { resp := some .refused, ret := .none, events := [] } })
    ∧ (legal → s.fsm = .idle → exec (.cfgWrite spf pps len) s = .next
      { s with
        cfgLen := len, cfgPps := pps, cfgSpf := spf
        resyncPending := true, resyncT0 := s.sideband.now
        outputs := { resp := some .ok, ret := .none, events := [] } })

/-- THE FRAME of NOP, READ_FRAME, RESYNC_REQ and CFG_WRITE, in every form and on every port: the arbiter, every byte of the frame
store and the counters of drawings are unchanged; only CFG_WRITE changes the geometry, only READ_FRAME the sequencing state
and the record, and NOP not even the resync request. -/
def Obligations.ControlOperationsFrame : Prop :=
  ∀ (i : Instr) (s t : State),
    (i = .nop ∨ i = .readFrame ∨ i = .resyncReq ∨ ∃ spf pps len, i = .cfgWrite spf pps len) →
    exec i s = .next t →
    SameArbiter s t ∧ SameBytes s t ∧ SameInputs s t ∧ t.payErrDraw = s.payErrDraw
    ∧ ((∀ spf pps len, i ≠ .cfgWrite spf pps len) → SameGeometry s t)
    ∧ (i ≠ .readFrame → SameSequencing s t ∧ SameRecord s t)
    ∧ (i = .nop → SameResync s t)

/-- The cooldown in real time (70_reset_and_hazards.md R187): let a request stand from time `T0` and READ_FRAME arrive at `T`, both
counted in time units and seen modulo 2^TIME_W. The read is answered COOLING exactly when `(T - T0) mod 2^TIME_W < COOLDOWN`;
so within 2^TIME_W units it is the true elapsed time that decides, and later a READ_FRAME may be answered COOLING once
more. -/
def Obligations.CooldownMeasuresRealTime : Prop :=
  ∀ (s : State) (T0 T : Nat), T0 ≤ T → s.sideband.port = .control → s.fsm = .idle →
    s.resyncPending = true → s.resyncT0 = T0 % 2 ^ s.params.timeW →
    s.sideband.now = T % 2 ^ s.params.timeW →
    ∃ t, exec .readFrame s = .next t
      ∧ ((T - T0) % 2 ^ s.params.timeW < s.params.cooldown →
          t.cooling = true ∧ t.cause = .cooling ∧ t.fsm = .idle ∧ t.resyncPending = true)
      ∧ (s.params.cooldown ≤ (T - T0) % 2 ^ s.params.timeW →
          t.cooling = false ∧ t.fsm = .reading ∧ t.resyncPending = false)
      ∧ (T - T0 < 2 ^ s.params.timeW → (t.fsm = .reading ↔ s.params.cooldown ≤ T - T0))

/-- An operation issued on a port that may not issue it is answered ILLEGAL and nothing else changes: control operations on a reader
port, reader operations on the control port (30_encoding.md R62; 60_exceptions.md R165). -/
def Obligations.ForeignOperationsAreIllegal : Prop :=
  ∀ (i : Instr) (s : State),
    (s.sideband.port = .reader ∧
      (i = .readFrame ∨ i = .resyncReq ∨ ∃ spf pps len, i = .cfgWrite spf pps len))
    ∨ (s.sideband.port = .control ∧
      (i = .rdAcquire ∨ i = .rdRelease ∨ ∃ buf off, i = .fbRead buf off)) →
    exec i s = .next { s with outputs := { resp := some .illegal, ret := .none, events := [] } }

/-! ### Stream-port operations -/

/-- While IDLE no packet is taken: every packet class leaves the state as it is and drives nothing (41_packet_ops.md R100,
95_test_vectors.md V6). THE MODEL'S CHOICE that the offer is then over (notes/assumptions/9). -/
def Obligations.PacketsAreNotTakenWhileIdle : Prop :=
  ∀ (i : Instr) (s : State), s.fsm = .idle → mayIssue .control i = false →
    mayIssue .reader i = false →
    exec i s = .next { s with outputs := { resp := none, ret := .none, events := [] } }

/-- PKT.HDR_ERR while READING (41_packet_ops.md R101): BUS_ERROR, and nothing else changes: `written` keeps its value, no resync is
requested, nothing is stored. -/
def Obligations.HeaderErrorEndsInvocation : Prop :=
  ∀ (xsHi : BitVec 1) (id crc : Half) (s : State), s.fsm = .reading →
    ∃ t, exec (.pktHdrErr xsHi id crc) s = .next t ∧ t =
      { s with
        busErr := true, cause := .busError, fsm := .idle
        outputs := { resp := none, ret := .none, events := [.done (cr0 t)] } }

/-- PKT.DISCARD while READING (41_packet_ops.md R102): at slot `(1, 0)` FIRST_DISCARD ends the invocation; anywhere else nothing
changes, the same slot is expected again. -/
def Obligations.DiscardFollowsItsRule : Prop :=
  ∀ (id crc : Half) (s : State), s.fsm = .reading →
    (s.seg = 1#3 ∧ s.pkt = 0#12 → ∃ t, exec (.pktDiscard id crc) s = .next t ∧ t =
      { s with
        cause := .firstDiscard, fsm := .idle
        outputs := { resp := none, ret := .none, events := [.done (cr0 t)] } })
    ∧ (¬ (s.seg = 1#3 ∧ s.pkt = 0#12) → exec (.pktDiscard id crc) s =
      .next { s with outputs := { resp := none, ret := .none, events := [] } })

/-- PKT.DISCARD_PAYERR while READING (41_packet_ops.md R103): BUS_ERROR, also at slot `(1, 0)`; nothing else changes. -/
def Obligations.DiscardPayloadErrorEndsInvocation : Prop :=
  ∀ (id crc : Half) (s : State), s.fsm = .reading →
    ∃ t, exec (.pktDiscardPayerr id crc) s = .next t ∧ t =
      { s with
        busErr := true, cause := .busError, fsm := .idle
        outputs := { resp := none, ret := .none, events := [.done (cr0 t)] } }

/-- PKT.VIDEO_PAYERR while READING at a slot that exists (41_packet_ops.md R105): `written` and BUS_ERROR, no resync, the slot's
bytes unspecified, every other byte as before, every other element unchanged. THE MODEL'S FORM of the unspecified bytes: free
values of this payload error (93_implementation_defined.md U2, notes/assumptions/7). -/
def Obligations.VideoPayloadErrorEndsInvocation : Prop :=
  ∀ (id crc : Half) (s : State), s.fsm = .reading → slotExists s = true →
    ∃ t, exec (.pktVideoPayerr id crc) s = .next t
      ∧ t = { s with
          written := true, busErr := true, cause := .busError, fsm := .idle
          outputs := { resp := none, ret := .none, events := [.done (cr0 t)] }
          fb := t.fb, payErrDraw := s.payErrDraw + 1 }
      ∧ (∀ i, i < s.cfgLen.toNat →
          t.fbByte (slotAddr s + i) = Config.payErrByte s.payErrDraw i)
      ∧ SameBytesOutside (slotAddr s) s.cfgLen.toNat s t

/-- PKT.VIDEO while READING at a slot that exists stores first (41_packet_ops.md R104 step 3; 20_memory.md R41, R42, R45): whatever
the ID word, payload byte `i` stands at offset `((seg - 1) × cfg_pps + pkt) × cfg_len + i` of the buffer that is the write
buffer before the step, every other byte is as before, and `written` is 1. -/
def Obligations.VideoStoresPayloadInExpectedSlot : Prop :=
  ∀ (id crc : Half) (s : State), s.fsm = .reading → slotExists s = true →
    ∃ t, exec (.pktVideo id crc) s = .next t ∧ t.written = true
      ∧ (∀ (i : Nat) (h : i < Config.maxLen), i < s.cfgLen.toNat →
          t.fbByte (s.wrIdx.toNat * s.params.frameMax
            + ((s.seg.toNat - 1) * s.cfgPps.toNat + s.pkt.toNat) * s.cfgLen.toNat + i)
            = s.sideband.payload[i])
      ∧ SameBytesOutside (slotAddr s) s.cfgLen.toNat s t

/-- A stored video packet that fails its check (41_packet_ops.md R104 steps 4 and 5, R107): a wrong sequence number invalidates, before
the tag is looked at; at `TAG_IDX` a zero tag restarts the segment and any tag but `seg` invalidates. -/
def Obligations.VideoDesynchronizationFollowsItsRule : Prop :=
  ∀ (id crc : Half) (s : State), s.fsm = .reading → slotExists s = true →
    ∃ t, exec (.pktVideo id crc) s = .next t
      ∧ (seqOf s.params id ≠ s.pkt.toNat → t =
        { s with
          fb := t.fb, written := true, readErr := true, cause := .seqMismatch
          resyncPending := true, resyncT0 := s.sideband.now, fsm := .idle
          outputs := { resp := none, ret := .none, events := [.done (cr0 t)] } })
      ∧ (seqOf s.params id = s.pkt.toNat → s.pkt.toNat = s.params.tagIdx →
          tagOf s.params id = 0 → t =
        { s with
          fb := t.fb, written := true, pkt := 0#12
          outputs := { resp := none, ret := .none, events := [] } })
      ∧ (seqOf s.params id = s.pkt.toNat → s.pkt.toNat = s.params.tagIdx →
          tagOf s.params id ≠ 0 → tagOf s.params id ≠ s.seg.toNat → t =
        { s with
          fb := t.fb, written := true, readErr := true, cause := .tagMismatch
          resyncPending := true, resyncT0 := s.sideband.now, fsm := .idle
          outputs := { resp := none, ret := .none, events := [.done (cr0 t)] } })

/-- A stored video packet that passes its checks (41_packet_ops.md R106, R108; 42_arbiter_ops.md R133): the next packet of the
segment, or the first of the next segment, or the frame completes; the completing step publishes when no reader holds the
read buffer and drops the frame otherwise, and fires the arbiter's event before `done`. -/
def Obligations.ValidVideoAdvancesOrCompletes : Prop :=
  ∀ (id crc : Half) (s : State), s.fsm = .reading → slotExists s = true →
    seqOf s.params id = s.pkt.toNat →
    (s.pkt.toNat = s.params.tagIdx → tagOf s.params id = s.seg.toNat) →
    ∃ t, exec (.pktVideo id crc) s = .next t
      ∧ (s.pkt.toNat + 1 < s.cfgPps.toNat → t =
        { s with
          fb := t.fb, written := true, pkt := s.pkt + 1#12
          outputs := { resp := none, ret := .none, events := [] } })
      ∧ (s.pkt.toNat + 1 = s.cfgPps.toNat → s.seg.toNat < s.cfgSpf.toNat → t =
        { s with
          fb := t.fb, written := true, seg := s.seg + 1#3, pkt := 0#12
          outputs := { resp := none, ret := .none, events := [] } })
      ∧ (s.pkt.toNat + 1 = s.cfgPps.toNat → s.seg = s.cfgSpf → s.rdCnt = 0 → t =
        { s with
          fb := t.fb, written := true, complete := true, fsm := .idle
          wrIdx := ~~~s.wrIdx, frameSeq := (s.frameSeq + 1) % 2 ^ s.params.seqW
          outputs := { resp := none, ret := .none,
                       events := [.frameAvail ((s.frameSeq + 1) % 2 ^ s.params.seqW),
                                  .done (cr0 t)] } })
      ∧ (s.pkt.toNat + 1 = s.cfgPps.toNat → s.seg = s.cfgSpf → s.rdCnt ≠ 0 → t =
        { s with
          fb := t.fb, written := true, complete := true, dropped := true, fsm := .idle
          outputs := { resp := none, ret := .none, events := [.frameDropped, .done (cr0 t)] } })

/-- THE FRAME of the five packet classes, taken or not, whatever the ID word: geometry, reader count, `arb_fault`, inputs and
`cooling` are unchanged; only PKT.VIDEO changes `(seg, pkt)`, the resync request, `read_err`, and, when it completes the
frame, `complete`, `dropped`, `wr_idx` and `frame_seq`. The two classes that store, store to the expected slot of the write
buffer and leave every byte outside its `cfg_len` bytes as before; the other three leave every byte as before. -/
def Obligations.PacketOperationsFrame : Prop :=
  ∀ (id crc : Half) (xsHi : BitVec 1) (i : Instr) (s t : State),
    (i = .pktHdrErr xsHi id crc ∨ i = .pktDiscard id crc ∨ i = .pktDiscardPayerr id crc
      ∨ i = .pktVideo id crc ∨ i = .pktVideoPayerr id crc) →
    exec i s = .next t →
    SameGeometry s t ∧ SameInputs s t ∧ t.rdCnt = s.rdCnt ∧ t.arbFault = s.arbFault
    ∧ t.cooling = s.cooling
    ∧ (i ≠ .pktVideo id crc → SameArbiter s t ∧ SameResync s t ∧ t.seg = s.seg ∧ t.pkt = s.pkt
        ∧ t.readErr = s.readErr ∧ t.complete = s.complete ∧ t.dropped = s.dropped)
    ∧ (i ≠ .pktVideoPayerr id crc → t.payErrDraw = s.payErrDraw)
    ∧ (i = .pktVideo id crc →
        t.busErr = s.busErr
        ∧ (¬ (s.fsm = .reading ∧ seqOf s.params id = s.pkt.toNat
              ∧ (s.pkt.toNat = s.params.tagIdx → tagOf s.params id = s.seg.toNat)
              ∧ s.cfgPps.toNat ≤ s.pkt.toNat + 1 ∧ s.cfgSpf.toNat ≤ s.seg.toNat) →
            SameArbiter s t ∧ t.complete = s.complete ∧ t.dropped = s.dropped))
    ∧ (i = .pktVideo id crc ∨ i = .pktVideoPayerr id crc →
        SameBytesOutside (slotAddr s) s.cfgLen.toNat s t)
    ∧ (i ≠ .pktVideo id crc → i ≠ .pktVideoPayerr id crc →
        SameBytes s t ∧ t.written = s.written)

/-- Where no slot exists to store to (the geometry or `(seg, pkt)` is outside the slot space of 20_memory.md R40), the two classes that
store stop with the named fault. THE MODEL'S CHOICE (notes/assumptions/10); no state with the invariants is such a state, as
`InvariantStatesAlwaysStep` says. -/
def Obligations.StoringWithoutASlotFaults : Prop :=
  ∀ (id crc : Half) (s : State), s.fsm = .reading → slotExists s = false →
    exec (.pktVideo id crc) s = .fault .noSuchSlot
    ∧ exec (.pktVideoPayerr id crc) s = .fault .noSuchSlot

/-! ### Reader-port operations -/

/-- RD_ACQUIRE on a reader port (42_arbiter_ops.md R130): granted with the read index and the sequence number in every state with
fewer than 2^RC_W - 1 readers, REFUSED at 2^RC_W - 1; nothing else changes. -/
def Obligations.AcquireFollowsItsRule : Prop :=
  ∀ s : State, s.sideband.port = .reader →
    (s.rdCnt ≠ 2 ^ s.params.rcW - 1 → exec .rdAcquire s = .next
      { s with
        rdCnt := s.rdCnt + 1
        outputs := { resp := some .ok, ret := .acquired (~~~s.wrIdx) s.frameSeq, events := [] } })
    ∧ (s.rdCnt = 2 ^ s.params.rcW - 1 → exec .rdAcquire s =
      .next { s with outputs := { resp := some .refused, ret := .none, events := [] } })

/-- RD_RELEASE on a reader port (42_arbiter_ops.md R131): one reader fewer; at zero the count stays 0, the answer is FAULT and
`arb_fault` is set; nothing else changes. -/
def Obligations.ReleaseFollowsItsRule : Prop :=
  ∀ s : State, s.sideband.port = .reader →
    (s.rdCnt ≠ 0 → exec .rdRelease s = .next
      { s with
        rdCnt := s.rdCnt - 1
        outputs := { resp := some .ok, ret := .none, events := [] } })
    ∧ (s.rdCnt = 0 → exec .rdRelease s = .next
      { s with
        arbFault := true
        outputs := { resp := some .fault, ret := .none, events := [] } })

/-- FB_READ on a reader port (42_arbiter_ops.md R132; 20_memory.md R43, R49, R58): the byte at `buf × FRAME_MAX + off`, which is the
byte written last or, if nothing has written it since RESET, a free value (THE MODEL'S FORM of an unspecified byte,
notes/assumptions/5); ILLEGAL at an offset of FRAME_MAX or more; no state changes, whatever `buf`, `rd_cnt` and `fsm` are. -/
def Obligations.FbReadFollowsItsRule : Prop :=
  ∀ (buf : BufIdx) (off : Half) (s : State), s.sideband.port = .reader →
    let addr := buf.toNat * s.params.frameMax + off.toNat
    (s.params.frameMax ≤ off.toNat → exec (.fbRead buf off) s =
      .next { s with outputs := { resp := some .illegal, ret := .none, events := [] } })
    ∧ (off.toNat < s.params.frameMax → ∀ b, s.fb.read addr = some b → exec (.fbRead buf off) s =
      .next { s with outputs := { resp := some .ok, ret := .byte b, events := [] } })
    ∧ (off.toNat < s.params.frameMax → s.fb.read addr = none → exec (.fbRead buf off) s =
      .next { s with
        outputs :=
          { resp := some .ok, ret := .byte (Config.unwrittenByte s.fbDraw addr), events := [] } })

/-- THE FRAME of RD_ACQUIRE, RD_RELEASE and FB_READ, in every form and on every port: no reader-port operation changes anything of
the producer, the geometry, the write index, the sequence number or any byte; only RD_ACQUIRE and RD_RELEASE change
`rd_cnt`, and only RD_RELEASE `arb_fault` (42_arbiter_ops.md R136, 20_memory.md R48). -/
def Obligations.ReaderOperationsFrame : Prop :=
  ∀ (i : Instr) (s t : State),
    (i = .rdAcquire ∨ i = .rdRelease ∨ ∃ buf off, i = .fbRead buf off) →
    exec i s = .next t →
    SameGeometry s t ∧ SameSequencing s t ∧ SameRecord s t ∧ SameResync s t ∧ SameBytes s t
    ∧ SameInputs s t ∧ t.payErrDraw = s.payErrDraw ∧ t.wrIdx = s.wrIdx ∧ t.frameSeq = s.frameSeq
    ∧ (i ≠ .rdRelease → t.arbFault = s.arbFault)
    ∧ ((∃ buf off, i = .fbRead buf off) → t.rdCnt = s.rdCnt)

/-! ### The whole machine -/

/-- The state after reset meets the invariants and nothing has gone wrong in it, at the reference parameters and at every value of
the static parameters that is one of their types. -/
def Obligations.ResetStateIsSafe : Prop :=
  State.reset.Safe ∧ ∀ p : Params, legalParams p = true → (State.resetWith p).Safe

/-- Every step keeps the invariants of 10_state.md R33, from every state that has them, whatever is offered. -/
def Obligations.StepsKeepInvariants : Prop :=
  ∀ s t : State, s.Inv → step s = .next t → t.Inv

/-- No step changes a static parameter, RESET included: they are a configuration argument, not state (00_scope.md R4, R8). -/
def Obligations.ParametersNeverChange : Prop :=
  ∀ s t : State, step s = .next t → t.params = s.params

/-- From a state with the invariants every step completes: no offered word, packet or RESET stops the block (60_exceptions.md R150,
R161; 30_encoding.md R67). -/
def Obligations.InvariantStatesAlwaysStep : Prop :=
  ∀ s : State, s.Inv → ∃ t, step s = .next t

/-- In every step but RESET, `wr_idx` and `frame_seq` change only together, by a flip and an increment, in a packet step taken with
`rd_cnt == 0` (10_state.md R33 item 7; 42_arbiter_ops.md R136). -/
def Obligations.IndexAndSequenceMoveTogether : Prop :=
  ∀ s t : State, step s = .next t → resetIsNext s = false →
    (t.wrIdx = s.wrIdx ∧ t.frameSeq = s.frameSeq)
    ∨ (t.wrIdx = ~~~s.wrIdx ∧ t.frameSeq = (s.frameSeq + 1) % 2 ^ s.params.seqW ∧ s.rdCnt = 0
        ∧ packetIsNext s = true ∧ t.complete = true)

/-- No step but RESET changes a byte of the read buffer `fb[~wr_idx]` (10_state.md R33 item 8; 20_memory.md R42). -/
def Obligations.ReadBufferIsNeverWritten : Prop :=
  ∀ s t : State, step s = .next t → resetIsNext s = false →
    ∀ off, off < s.params.frameMax →
      t.fbByte (linear s.params (rdIdx s) off) = s.fbByte (linear s.params (rdIdx s) off)

/-- Only a packet or RESET leaves READING: there is no timeout and no abort operation (70_reset_and_hazards.md R192). -/
def Obligations.OnlyPacketsAndResetLeaveReading : Prop :=
  ∀ s t : State, step s = .next t → s.fsm = .reading → t.fsm = .idle →
    packetIsNext s = true ∨ resetIsNext s = true

/-- Only an accepted READ_FRAME enters READING, and it starts at slot `(1, 0)` with a cleared record, all seven elements of it,
and no resync pending (40_control_ops.md R81; 60_exceptions.md R162). -/
def Obligations.OnlyReadFrameEntersReading : Prop :=
  ∀ s t : State, step s = .next t → s.fsm = .idle → t.fsm = .reading →
    performs s = some .readFrame ∧ t.seg = 1#3 ∧ t.pkt = 0#12 ∧ t.resyncPending = false
    ∧ t.written = false ∧ t.complete = false ∧ t.readErr = false ∧ t.busErr = false
    ∧ t.cooling = false ∧ t.dropped = false ∧ t.cause = .none ∧ outcome t = 0b00#2

/-- The geometry changes only by RESET or by a legal CFG_WRITE performed in IDLE, which leaves a resync pending (10_state.md R33
item 5; 20_memory.md R55). -/
def Obligations.GeometryChangesOnlyInIdle : Prop :=
  ∀ s t : State, step s = .next t → resetIsNext s = false → ¬ SameGeometry s t →
    s.fsm = .idle ∧ performs s = some (.cfgWrite t.cfgSpf t.cfgPps t.cfgLen)
    ∧ legalGeometry s.params t.cfgSpf t.cfgPps t.cfgLen = true ∧ t.resyncPending = true

/-- `resync_pending` is cleared only by RESET and by a READ_FRAME that finds the window passed (10_state.md R18). -/
def Obligations.ResyncFlagClearsOnlyAfterTheWindow : Prop :=
  ∀ s t : State, step s = .next t → s.resyncPending = true → t.resyncPending = false →
    resetIsNext s = true
    ∨ (performs s = some .readFrame ∧ t.fsm = .reading
        ∧ s.params.cooldown ≤ elapsed s.params t.sideband.now s.resyncT0)

/-- Every step but RESET that requests a resync leaves it pending and records the time it sampled, whether or not one was pending
(10_state.md R19): a RESYNC_REQ or CFG_WRITE answered OK, a PKT.VIDEO that ends the invocation without completing the frame,
and any step that sets `resync_pending` or changes `resync_t0`. -/
def Obligations.ResyncRequestsRecordTheirTime : Prop :=
  ∀ s t : State, step s = .next t → resetIsNext s = false →
    (t.outputs.resp = some .ok
      ∧ (performs s = some .resyncReq ∨ ∃ spf pps len, performs s = some (.cfgWrite spf pps len)))
    ∨ ((∃ id crc, performs s = some (.pktVideo id crc)) ∧ s.fsm = .reading ∧ t.fsm = .idle
      ∧ t.complete = false)
    ∨ (s.resyncPending = false ∧ t.resyncPending = true) ∨ t.resyncT0 ≠ s.resyncT0 →
    t.resyncPending = true ∧ t.resyncT0 = t.sideband.now

/-- While a resync is pending the select line is deasserted, and `outcome` is never 0b10, in every state with the invariants
(10_state.md R29). -/
def Obligations.SelectIsLowThroughoutCooldown : Prop :=
  ∀ s : State, s.Inv →
    (s.resyncPending = true → streamSel s = false ∧ pktReady s = false) ∧ outcome s ≠ 0b10#2

/-- `arb_fault` is sticky until RESET and is set only by an RD_RELEASE that finds no reader (10_state.md R25). -/
def Obligations.ArbFaultIsSticky : Prop :=
  ∀ s t : State, step s = .next t → resetIsNext s = false →
    (s.arbFault = true → t.arbFault = true)
    ∧ (s.arbFault = false → t.arbFault = true →
        performs s = some .rdRelease ∧ s.rdCnt = 0 ∧ t.rdCnt = 0)

/-- `frame_avail` fires exactly in the steps that increment `frame_seq`, with the new value (30_encoding.md R70; 42_arbiter_ops.md
R136). SEQ_W is positive (92_eei_decisions.md section 1): a counter of no bits would not show its increment. -/
def Obligations.FrameAvailFiresWithEachIncrement : Prop :=
  ∀ s t : State, 1 ≤ s.params.seqW → step s = .next t → resetIsNext s = false →
    ((∃ q, Event.frameAvail q ∈ t.outputs.events) ↔ t.frameSeq ≠ s.frameSeq)
    ∧ ∀ q, Event.frameAvail q ∈ t.outputs.events →
        q = t.frameSeq ∧ t.frameSeq = (s.frameSeq + 1) % 2 ^ s.params.seqW

/-- `done` fires exactly in the steps that end an invocation and in a READ_FRAME answered by the cooldown, it carries CR0 as it
stands after the step, and it is the last event of its step (30_encoding.md R70). -/
def Obligations.DoneFiresWhenAnInvocationEnds : Prop :=
  ∀ s t : State, step s = .next t → resetIsNext s = false →
    ((∃ c, Event.done c ∈ t.outputs.events) ↔
      (s.fsm = .reading ∧ t.fsm = .idle)
      ∨ (performs s = some .readFrame ∧ t.outputs.resp = some .ok ∧ t.fsm = .idle))
    ∧ ∀ c, Event.done c ∈ t.outputs.events →
        c = cr0 t ∧ t.outputs.events.getLast? = some (.done c)

/-- How an invocation ends: every step but RESET that leaves READING from a state with the invariants leaves one of the records of
the table of 60_exceptions.md R150: cause, flag, whether a resync is pending, and the outcome. -/
def Obligations.EndingsMatchTheConditionTable : Prop :=
  ∀ s t : State, s.Inv → step s = .next t → resetIsNext s = false →
    s.fsm = .reading → t.fsm = .idle →
    (t.cause = .none ∧ outcome t = 0b11#2 ∧ t.resyncPending = false)
    ∨ (t.cause = .firstDiscard ∧ t.seg = 1#3 ∧ t.pkt = 0#12 ∧ t.written = s.written
        ∧ t.complete = false ∧ t.resyncPending = false)
    ∨ ((t.cause = .seqMismatch ∨ t.cause = .tagMismatch) ∧ t.readErr = true
        ∧ outcome t = 0b01#2 ∧ t.resyncPending = true ∧ t.resyncT0 = t.sideband.now
        ∧ (t.cause = .tagMismatch → t.pkt.toNat = s.params.tagIdx))
    ∨ (t.cause = .busError ∧ t.busErr = true ∧ t.complete = false ∧ t.resyncPending = false)

/-- What readers do never steers the producer: control and packet operations started with different reader counts end the same way
and agree on everything but the publish itself (42_arbiter_ops.md R133, R136: the producer is never refused or delayed by
any reader-port operation). -/
def Obligations.ReaderCountNeverSteersTheProducer : Prop :=
  ∀ (i : Instr) (s : State) (c : RdCount),
    i ≠ .rdAcquire → i ≠ .rdRelease → (∀ buf off, i ≠ .fbRead buf off) →
    (∀ t, exec i s = .next t → ∃ u, exec i { s with rdCnt := c } = .next u
      ∧ SameGeometry t u ∧ SameSequencing t u ∧ SameResync t u ∧ SameBytes t u
      ∧ u.written = t.written ∧ u.complete = t.complete ∧ u.readErr = t.readErr
      ∧ u.busErr = t.busErr ∧ u.cooling = t.cooling ∧ u.cause = t.cause
      ∧ u.arbFault = t.arbFault ∧ u.outputs.resp = t.outputs.resp
      ∧ u.rdCnt = c)

/-- The slots tile the frame (20_memory.md R41): under a legal geometry every offset below FrameBytes lies in exactly one slot's
`cfg_len` bytes, and every slot lies below FrameBytes. -/
def Obligations.SlotsTileTheFrame : Prop :=
  ∀ (p : Params) (spf : SegIdx) (pps : PktIdx) (len : PayLen),
    legalGeometry p spf pps len = true →
    (∀ (seg : SegIdx) (pkt : PktIdx), 1 ≤ seg.toNat → seg.toNat ≤ spf.toNat →
      pkt.toNat < pps.toNat →
      slotOffset pps len seg pkt + len.toNat ≤ frameBytes spf pps len)
    ∧ ∀ off, off < frameBytes spf pps len →
      ∃ (seg : SegIdx) (pkt : PktIdx),
        (1 ≤ seg.toNat ∧ seg.toNat ≤ spf.toNat ∧ pkt.toNat < pps.toNat
          ∧ slotOffset pps len seg pkt ≤ off ∧ off < slotOffset pps len seg pkt + len.toNat)
        ∧ ∀ (seg' : SegIdx) (pkt' : PktIdx), 1 ≤ seg'.toNat → seg'.toNat ≤ spf.toNat →
          pkt'.toNat < pps.toNat → slotOffset pps len seg' pkt' ≤ off →
          off < slotOffset pps len seg' pkt' + len.toNat → seg' = seg ∧ pkt' = pkt

/-- The reader count is the number of granted RD_ACQUIREs less the number of RD_RELEASEs answered OK, over any run without RESET
(10_state.md R23, R33 item 6). -/
def Obligations.ReaderCountIsGrantsLessReleases : Prop :=
  ∀ (k : Nat) (s t : State), runSteps k s = .next t → resets k s = 0 →
    t.rdCnt + releases k s = s.rdCnt + grants k s

/-- No torn frame (20_memory.md R57). A consumer is granted RD_ACQUIRE in the step from `s` to `a`. Then, for any run of `k` steps of
any agents in any order, without RESET, in which at no point more RD_RELEASEs have been answered OK than the other consumers
had acquisitions outstanding (those before, `s.rdCnt`, and those granted since), the write index and the sequence number
have not moved, the count is still positive, and every byte of the granted buffer is the byte it was at the grant. -/
def Obligations.HeldBufferIsNeverTorn : Prop :=
  ∀ (s a t : State) (k : Nat), step s = .next a → granted s a = true →
    runSteps k a = .next t → resets k a = 0 →
    (∀ j, j ≤ k → releases j a ≤ s.rdCnt + grants j a) →
    a.outputs.ret = .acquired (~~~s.wrIdx) s.frameSeq
    ∧ 1 ≤ t.rdCnt ∧ t.wrIdx = s.wrIdx ∧ t.frameSeq = s.frameSeq
    ∧ ∀ off, off < s.params.frameMax →
        t.fbByte (linear s.params (~~~s.wrIdx) off) = s.fbByte (linear s.params (~~~s.wrIdx) off)

/-- What a completed frame holds (41_packet_ops.md R110, last sentence). An invocation at slot `(1, 0)` under a legal geometry is fed
exactly `S × P` valid packets and nothing else is offered meanwhile: packet `k` carries sequence number `k mod P` and, at
`TAG_IDX`, the tag of its segment; its other ID bits, its CRC, its payload and its time are free. Then the frame is complete,
packet `k` stands at bytes `k × L` to `(k + 1) × L - 1` of the buffer that was the write buffer, and the index has flipped if
no reader held the other one. -/
def Obligations.ValidStreamFillsTheFrame : Prop :=
  ∀ (s : State) (id crc : Nat → Half) (pay : Nat → Payload) (now : Nat → Nat)
    (rest : List Input),
    let P := s.cfgPps.toNat
    let n := s.cfgSpf.toNat * P
    legalGeometry s.params s.cfgSpf s.cfgPps s.cfgLen = true →
    s.fsm = .reading → s.seg = 1#3 → s.pkt = 0#12 →
    (∀ k, k < n → isDiscard s.params (id k) = false ∧ seqOf s.params (id k) = k % P
      ∧ (k % P = s.params.tagIdx → tagOf s.params (id k) = k / P + 1)) →
    s.inputs = (List.range n).map (fun k => .packet (0#2 ++ id k ++ crc k) (pay k) (now k)) ++ rest →
    ∃ t, runSteps n s = .next t ∧ t.complete = true ∧ t.fsm = .idle ∧ t.inputs = rest
      ∧ t.wrIdx = (if s.rdCnt = 0 then ~~~s.wrIdx else s.wrIdx)
      ∧ t.frameSeq = (if s.rdCnt = 0 then (s.frameSeq + 1) % 2 ^ s.params.seqW else s.frameSeq)
      ∧ ∀ k, k < n → ∀ (j : Nat) (h : j < Config.maxLen), j < s.cfgLen.toNat →
          t.fbByte (linear s.params s.wrIdx (k * s.cfgLen.toNat + j)) = (pay k)[j]
end

