-- ==== Sys2Proof/Laws/Decode.lean ====
section
/-! SUPPORT. The fields of encodings: extracting a field of a word put together from its fields, and putting a word together from
the fields extracted from it. -/

namespace Sys2Proof

/-- Extracting from inside the high part of an append. -/
theorem extract_append_high {n m : Nat} (x : BitVec n) (y : BitVec m) (lo w : Nat) (h : m ≤ lo) :
    (x ++ y).extractLsb' lo w = x.extractLsb' (lo - m) w := by
  ext i hi
  have h1 : ¬ lo + i < m := by omega
  have h2 : lo - m + i = lo + i - m := by omega
  simp [BitVec.getLsbD_append, h1, h2]

/-- Extracting from inside the low part of an append. -/
theorem extract_append_low {n m : Nat} (x : BitVec n) (y : BitVec m) (lo w : Nat) (h : lo + w ≤ m) :
    (x ++ y).extractLsb' lo w = y.extractLsb' lo w := by
  ext i hi
  have h1 : lo + i < m := by omega
  simp [BitVec.getLsbD_append, h1]

/-- Extracting the whole width gives the value. -/
@[simp] theorem extract_all {n : Nat} (x : BitVec n) : x.extractLsb' 0 n = x := by
  ext i hi
  simp

/-- A field of a field. -/
theorem extract_extract {n : Nat} (x : BitVec n) (lo w lo' w' : Nat) (h : lo' + w' ≤ w) :
    (x.extractLsb' lo w).extractLsb' lo' w' = x.extractLsb' (lo + lo') w' := by
  ext i hi
  have h1 : lo' + i < w := by omega
  have h2 : lo + (lo' + i) = lo + lo' + i := by omega
  simp [h1, h2]

/-- Two neighbouring fields are one field. -/
theorem extract_join {k : Nat} (x : BitVec k) (lo n m : Nat) :
    x.extractLsb' (lo + m) n ++ x.extractLsb' lo m = x.extractLsb' lo (n + m) := by
  ext i hi
  simp only [BitVec.getElem_append, BitVec.getElem_extractLsb']
  split
  · rfl
  · rename_i h
    have h1 : lo + m + (i - m) = lo + i := by omega
    rw [h1]

/-! ### Operation words -/

@[simp] theorem opcOf_append (opc : BitVec 4) (x : BitVec 28) : opcOf (opc ++ x) = opc := by
  rw [opcOf, extract_append_high _ _ _ _ (Nat.le_refl 28)]
  exact extract_all opc

@[simp] theorem operandBits_append (opc : BitVec 4) (x : BitVec 28) :
    operandBits (opc ++ x) = x := by
  rw [operandBits, extract_append_low _ _ _ _ (Nat.le_refl 28)]
  exact extract_all x

/-- An operation word is its opcode and its operand bits. -/
theorem opc_operands (w : Word) : opcOf w ++ operandBits w = w := by
  rw [opcOf, operandBits, extract_join w 0 4 28]
  exact extract_all w

/-- The operand bits of CFG_WRITE are its four fields (30_encoding.md R63). -/
theorem cfg_fields (w : Word) :
    w.extractLsb' 23 5 ++ w.extractLsb' 20 3 ++ w.extractLsb' 8 12 ++ w.extractLsb' 0 8
      = operandBits w := by
  rw [extract_join w 20 5 3, extract_join w 8 (5 + 3) 12, extract_join w 0 (5 + 3 + 12) 8]
  rfl

/-- The operand bits of FB_READ are its three fields (30_encoding.md R63). -/
theorem fb_fields (w : Word) :
    w.extractLsb' 27 1 ++ w.extractLsb' 16 11 ++ w.extractLsb' 0 16 = operandBits w := by
  rw [extract_join w 16 1 11, extract_join w 0 (1 + 11) 16]
  rfl

/-! ### Packet descriptors -/

@[simp] theorem xsOf_append (xs : BitVec 2) (id crc : Half) : xsOf (xs ++ id ++ crc) = xs := by
  rw [xsOf, extract_append_high _ _ _ _ (by decide), extract_append_high _ _ _ _ (by decide)]
  exact extract_all xs

@[simp] theorem idOf_append (xs : BitVec 2) (id crc : Half) : idOf (xs ++ id ++ crc) = id := by
  rw [idOf, extract_append_high _ _ _ _ (by decide), extract_append_low _ _ _ _ (by decide)]
  exact extract_all id

@[simp] theorem crcOf_append (xs : BitVec 2) (id crc : Half) : crcOf (xs ++ id ++ crc) = crc := by
  rw [crcOf, extract_append_low _ _ _ _ (by decide)]
  exact extract_all crc

/-- A descriptor is its three fields. -/
theorem xs_id_crc (d : Desc) : xsOf d ++ idOf d ++ crcOf d = d := by
  rw [xsOf, idOf, crcOf, extract_join d 16 2 16, extract_join d 0 (2 + 16) 16]
  exact extract_all d

end Sys2Proof
end

