-- ==== Sys2Proof/Laws/Memory.lean ====
section
/-! SUPPORT. The laws of the frame store: reading after writing, and that a write keeps the canonical form and the bounds. -/

namespace Sys2Proof.Machine

@[simp] theorem Memory.unlisted_eq : Memory.unlisted = none := rfl

@[simp] theorem Memory.read_nil (x : Nat) : Memory.read [] x = none := rfl

@[simp] theorem Memory.cells_nil (a : Nat) : Memory.cells a [] = [] := rfl

/-- A read of an appended memory looks in the first part first. -/
theorem Memory.read_append (m n : Memory) (x : Nat) :
    Memory.read (m ++ n) x = (m.read x).or (n.read x) := by
  induction m with
  | nil => simp
  | cons c m ih =>
    simp only [List.cons_append, Memory.read]
    split <;> simp [ih]

/-- A filter on addresses that keeps `x` does not change the read of `x`. -/
theorem Memory.read_filter_keep (m : Memory) (p : Nat → Bool) (x : Nat) (h : p x = true) :
    Memory.read (m.filter fun c => p c.1) x = m.read x := by
  induction m with
  | nil => rfl
  | cons c m ih =>
    by_cases hc : c.1 = x
    · subst hc; simp [h, Memory.read]
    · by_cases hp : p c.1 = true <;> simp [hp, Memory.read, hc, ih]

/-- A filter on addresses that drops `x` leaves it unlisted. -/
theorem Memory.read_filter_drop (m : Memory) (p : Nat → Bool) (x : Nat) (h : p x = false) :
    Memory.read (m.filter fun c => p c.1) x = none := by
  induction m with
  | nil => rfl
  | cons c m ih =>
    by_cases hp : p c.1 = true
    · have hc : c.1 ≠ x := fun e => by simp [← e, hp] at h
      simp [hp, Memory.read, hc, ih]
    · simp [hp, ih]

/-- The read of freshly laid out cells. -/
theorem Memory.read_cells (a : Nat) (bs : List Byte) (x : Nat) :
    Memory.read (Memory.cells a bs) x = if a ≤ x then bs[x - a]? else none := by
  induction bs generalizing a with
  | nil => simp
  | cons b bs ih =>
    simp only [Memory.cells, Memory.read, ih]
    by_cases hx : a = x
    · simp [hx]
    · by_cases hle : a ≤ x
      · have h1 : a + 1 ≤ x := by omega
        have h2 : x - a = x - (a + 1) + 1 := by omega
        simp [hx, hle, h1, h2]
      · have h1 : ¬ a + 1 ≤ x := by omega
        simp [hx, hle, h1]

/-- Reading inside the written run gives the byte written. -/
theorem Memory.read_write_inside (m : Memory) (a : Nat) (bs : List Byte) (x : Nat)
    (h1 : a ≤ x) (h2 : x < a + bs.length) : (m.write a bs).read x = bs[x - a]? := by
  have hlt : decide (x < a) = false := by simp; omega
  have hge : decide (a + bs.length ≤ x) = false := by simp; omega
  rw [Memory.write, Memory.read_append, Memory.read_append, Memory.read_cells,
    Memory.read_filter_drop m (fun y => decide (y < a)) x hlt,
    Memory.read_filter_drop m (fun y => decide (a + bs.length ≤ y)) x hge]
  simp [h1]

/-- Reading outside the written run gives what was there. -/
theorem Memory.read_write_outside (m : Memory) (a : Nat) (bs : List Byte) (x : Nat)
    (h : x < a ∨ a + bs.length ≤ x) : (m.write a bs).read x = m.read x := by
  rw [Memory.write, Memory.read_append, Memory.read_append, Memory.read_cells]
  rcases h with h | h
  · rw [Memory.read_filter_keep m (fun y => decide (y < a)) x (by simpa using h),
      Memory.read_filter_drop m (fun y => decide (a + bs.length ≤ y)) x (by simp; omega)]
    have : ¬ a ≤ x := by omega
    simp [this]
  · rw [Memory.read_filter_drop m (fun y => decide (y < a)) x (by simp; omega),
      Memory.read_filter_keep m (fun y => decide (a + bs.length ≤ y)) x (by simpa using h)]
    have h1 : a ≤ x := by omega
    have h2 : bs.length ≤ x - a := by omega
    simp [h1, h2]

/-- The canonical form says that the addresses rise strictly, all along the list. -/
theorem Memory.wf_iff_pairwise (m : Memory) :
    m.wf = true ↔ m.Pairwise fun c d => c.1 < d.1 := by
  induction m with
  | nil => simp [Memory.wf]
  | cons c m ih =>
    cases m with
    | nil => simp [Memory.wf]
    | cons d m =>
      rw [Memory.wf, Bool.and_eq_true, decide_eq_true_eq, ih]
      constructor
      · rintro ⟨hcd, hp⟩
        refine List.pairwise_cons.2 ⟨fun e he => ?_, hp⟩
        rcases List.mem_cons.1 he with rfl | he
        · exact hcd
        · exact Nat.lt_trans hcd ((List.pairwise_cons.1 hp).1 e he)
      · intro hp
        exact ⟨(List.pairwise_cons.1 hp).1 d (by simp), (List.pairwise_cons.1 hp).2⟩

/-- A cell laid out from `a` lies in the run. -/
theorem Memory.mem_cells {a : Nat} {bs : List Byte} {c : Host.Cell} (h : c ∈ Memory.cells a bs) :
    a ≤ c.1 ∧ c.1 < a + bs.length := by
  induction bs generalizing a with
  | nil => simp at h
  | cons b bs ih =>
    rcases List.mem_cons.1 h with rfl | h
    · simp
    · have := ih h
      simp only [List.length_cons]
      omega

/-- Cells are laid out at rising addresses. -/
theorem Memory.pairwise_cells (a : Nat) (bs : List Byte) :
    (Memory.cells a bs).Pairwise fun c d => c.1 < d.1 := by
  induction bs generalizing a with
  | nil => simp
  | cons b bs ih =>
    refine List.pairwise_cons.2 ⟨fun c hc => ?_, ih _⟩
    have := Memory.mem_cells hc
    show a < c.1
    omega

/-- A write keeps the canonical form. -/
theorem Memory.write_wf (m : Memory) (a : Nat) (bs : List Byte) (h : m.wf = true) :
    (m.write a bs).wf = true := by
  rw [Memory.wf_iff_pairwise] at h ⊢
  refine List.pairwise_append.2 ⟨List.pairwise_append.2 ⟨h.filter _, Memory.pairwise_cells a bs, ?_⟩,
    h.filter _, ?_⟩
  · intro c hc d hd
    have h1 := Memory.mem_cells hd
    have h2 : c.1 < a := by simpa using (List.mem_filter.1 hc).2
    omega
  · intro c hc d hd
    have h2 : a + bs.length ≤ d.1 := by simpa using (List.mem_filter.1 hd).2
    rcases List.mem_append.1 hc with hc | hc
    · have h1 : c.1 < a := by simpa using (List.mem_filter.1 hc).2
      omega
    · have h1 := Memory.mem_cells hc
      omega

/-- A write inside the frame store keeps every listed address inside it. -/
theorem Memory.write_inBounds (m : Memory) (a : Nat) (bs : List Byte) {frameMax : Nat}
    (h : m.inBounds frameMax = true) (hb : a + bs.length ≤ 2 * frameMax) :
    (m.write a bs).inBounds frameMax = true := by
  simp only [Memory.inBounds, List.all_eq_true, decide_eq_true_eq] at h ⊢
  intro c hc
  rcases List.mem_append.1 hc with hc | hc
  · rcases List.mem_append.1 hc with hc | hc
    · exact h c (List.mem_filter.1 hc).1
    · have := Memory.mem_cells hc
      omega
  · exact h c (List.mem_filter.1 hc).1

/-- Two memories in canonical form that read alike everywhere are equal data. -/
theorem Memory.ext_of_wf {m n : Memory} (hm : m.wf = true) (hn : n.wf = true)
    (h : ∀ x, m.read x = n.read x) : m = n := by
  rw [Memory.wf_iff_pairwise] at hm hn
  induction m generalizing n with
  | nil =>
    cases n with
    | nil => rfl
    | cons d n => have := h d.1; simp [Memory.read] at this
  | cons c m ih =>
    cases n with
    | nil => have := h c.1; simp [Memory.read] at this
    | cons d n =>
      have below : ∀ {e : Host.Cell} {k : Memory}, (e :: k).Pairwise (fun c d => c.1 < d.1) →
          ∀ x, x ≤ e.1 → Memory.read k x = none := by
        intro e k hk x hx
        have hall := (List.pairwise_cons.1 hk).1
        clear hk
        induction k with
        | nil => rfl
        | cons f k ihk =>
          have hf := hall f (by simp)
          have hne : f.1 ≠ x := by omega
          have hrest := ihk fun g hg => hall g (by simp [hg])
          simp [Memory.read, hne, hrest]
      have hcd : c.1 = d.1 := by
        rcases Nat.lt_trichotomy c.1 d.1 with hlt | heq | hgt
        · have hx := h c.1
          have hne : d.1 ≠ c.1 := by omega
          simp [Memory.read, hne, below hn c.1 (by omega)] at hx
        · exact heq
        · have hx := h d.1
          have hne : c.1 ≠ d.1 := by omega
          simp [Memory.read, hne, below hm d.1 (by omega)] at hx
      have hb : c.2 = d.2 := by
        have hx := h c.1
        simpa [Memory.read, hcd] using hx
      have hc : c = d := Prod.ext hcd hb
      subst hc
      congr 1
      refine ih (List.pairwise_cons.1 hm).2 (List.pairwise_cons.1 hn).2 fun x => ?_
      have hx := h x
      by_cases hxc : c.1 = x
      · rw [below hm x (by omega), below hn x (by omega)]
      · simpa [Memory.read, hxc] using hx

end Sys2Proof.Machine
end

