-- ==== Sys2Proof/Laws/State.lean ====
section
/-! SUPPORT. One lemma per field per update of the state, so that no proof unfolds a record update. -/

namespace Sys2Proof.Machine

/-! ### Outputs.silent -/

@[simp] theorem silent_resp : Outputs.silent.resp = none := rfl
@[simp] theorem silent_ret : Outputs.silent.ret = .none := rfl
@[simp] theorem silent_events : Outputs.silent.events = [] := rfl

variable (s : State)

/-! ### quiet -/

@[simp] theorem quiet_cfgLen : s.quiet.cfgLen = s.cfgLen := rfl
@[simp] theorem quiet_cfgPps : s.quiet.cfgPps = s.cfgPps := rfl
@[simp] theorem quiet_cfgSpf : s.quiet.cfgSpf = s.cfgSpf := rfl
@[simp] theorem quiet_fsm : s.quiet.fsm = s.fsm := rfl
@[simp] theorem quiet_seg : s.quiet.seg = s.seg := rfl
@[simp] theorem quiet_pkt : s.quiet.pkt = s.pkt := rfl
@[simp] theorem quiet_written : s.quiet.written = s.written := rfl
@[simp] theorem quiet_resyncPending : s.quiet.resyncPending = s.resyncPending := rfl
@[simp] theorem quiet_resyncT0 : s.quiet.resyncT0 = s.resyncT0 := rfl
@[simp] theorem quiet_complete : s.quiet.complete = s.complete := rfl
@[simp] theorem quiet_readErr : s.quiet.readErr = s.readErr := rfl
@[simp] theorem quiet_busErr : s.quiet.busErr = s.busErr := rfl
@[simp] theorem quiet_cooling : s.quiet.cooling = s.cooling := rfl
@[simp] theorem quiet_dropped : s.quiet.dropped = s.dropped := rfl
@[simp] theorem quiet_cause : s.quiet.cause = s.cause := rfl
@[simp] theorem quiet_wrIdx : s.quiet.wrIdx = s.wrIdx := rfl
@[simp] theorem quiet_rdCnt : s.quiet.rdCnt = s.rdCnt := rfl
@[simp] theorem quiet_frameSeq : s.quiet.frameSeq = s.frameSeq := rfl
@[simp] theorem quiet_arbFault : s.quiet.arbFault = s.arbFault := rfl
@[simp] theorem quiet_fb : s.quiet.fb = s.fb := rfl
@[simp] theorem quiet_fbDraw : s.quiet.fbDraw = s.fbDraw := rfl
@[simp] theorem quiet_payErrDraw : s.quiet.payErrDraw = s.payErrDraw := rfl
@[simp] theorem quiet_sideband : s.quiet.sideband = s.sideband := rfl
@[simp] theorem quiet_inputs : s.quiet.inputs = s.inputs := rfl
@[simp] theorem quiet_params : s.quiet.params = s.params := rfl
@[simp] theorem quiet_outputs : s.quiet.outputs = Outputs.silent := rfl

/-! ### answer -/

@[simp] theorem answer_cfgLen (r : Resp) (d : ReturnData) : (s.answer r d).cfgLen = s.cfgLen := rfl
@[simp] theorem answer_cfgPps (r : Resp) (d : ReturnData) : (s.answer r d).cfgPps = s.cfgPps := rfl
@[simp] theorem answer_cfgSpf (r : Resp) (d : ReturnData) : (s.answer r d).cfgSpf = s.cfgSpf := rfl
@[simp] theorem answer_fsm (r : Resp) (d : ReturnData) : (s.answer r d).fsm = s.fsm := rfl
@[simp] theorem answer_seg (r : Resp) (d : ReturnData) : (s.answer r d).seg = s.seg := rfl
@[simp] theorem answer_pkt (r : Resp) (d : ReturnData) : (s.answer r d).pkt = s.pkt := rfl
@[simp] theorem answer_written (r : Resp) (d : ReturnData) : (s.answer r d).written = s.written := rfl
@[simp] theorem answer_resyncPending (r : Resp) (d : ReturnData) : (s.answer r d).resyncPending = s.resyncPending := rfl
@[simp] theorem answer_resyncT0 (r : Resp) (d : ReturnData) : (s.answer r d).resyncT0 = s.resyncT0 := rfl
@[simp] theorem answer_complete (r : Resp) (d : ReturnData) : (s.answer r d).complete = s.complete := rfl
@[simp] theorem answer_readErr (r : Resp) (d : ReturnData) : (s.answer r d).readErr = s.readErr := rfl
@[simp] theorem answer_busErr (r : Resp) (d : ReturnData) : (s.answer r d).busErr = s.busErr := rfl
@[simp] theorem answer_cooling (r : Resp) (d : ReturnData) : (s.answer r d).cooling = s.cooling := rfl
@[simp] theorem answer_dropped (r : Resp) (d : ReturnData) : (s.answer r d).dropped = s.dropped := rfl
@[simp] theorem answer_cause (r : Resp) (d : ReturnData) : (s.answer r d).cause = s.cause := rfl
@[simp] theorem answer_wrIdx (r : Resp) (d : ReturnData) : (s.answer r d).wrIdx = s.wrIdx := rfl
@[simp] theorem answer_rdCnt (r : Resp) (d : ReturnData) : (s.answer r d).rdCnt = s.rdCnt := rfl
@[simp] theorem answer_frameSeq (r : Resp) (d : ReturnData) : (s.answer r d).frameSeq = s.frameSeq := rfl
@[simp] theorem answer_arbFault (r : Resp) (d : ReturnData) : (s.answer r d).arbFault = s.arbFault := rfl
@[simp] theorem answer_fb (r : Resp) (d : ReturnData) : (s.answer r d).fb = s.fb := rfl
@[simp] theorem answer_fbDraw (r : Resp) (d : ReturnData) : (s.answer r d).fbDraw = s.fbDraw := rfl
@[simp] theorem answer_payErrDraw (r : Resp) (d : ReturnData) : (s.answer r d).payErrDraw = s.payErrDraw := rfl
@[simp] theorem answer_sideband (r : Resp) (d : ReturnData) : (s.answer r d).sideband = s.sideband := rfl
@[simp] theorem answer_inputs (r : Resp) (d : ReturnData) : (s.answer r d).inputs = s.inputs := rfl
@[simp] theorem answer_params (r : Resp) (d : ReturnData) : (s.answer r d).params = s.params := rfl
@[simp] theorem answer_outputs (r : Resp) (d : ReturnData) : (s.answer r d).outputs = { resp := some r, ret := d, events := [] } := rfl

/-! ### emit -/

@[simp] theorem emit_cfgLen (e : Event) : (s.emit e).cfgLen = s.cfgLen := rfl
@[simp] theorem emit_cfgPps (e : Event) : (s.emit e).cfgPps = s.cfgPps := rfl
@[simp] theorem emit_cfgSpf (e : Event) : (s.emit e).cfgSpf = s.cfgSpf := rfl
@[simp] theorem emit_fsm (e : Event) : (s.emit e).fsm = s.fsm := rfl
@[simp] theorem emit_seg (e : Event) : (s.emit e).seg = s.seg := rfl
@[simp] theorem emit_pkt (e : Event) : (s.emit e).pkt = s.pkt := rfl
@[simp] theorem emit_written (e : Event) : (s.emit e).written = s.written := rfl
@[simp] theorem emit_resyncPending (e : Event) : (s.emit e).resyncPending = s.resyncPending := rfl
@[simp] theorem emit_resyncT0 (e : Event) : (s.emit e).resyncT0 = s.resyncT0 := rfl
@[simp] theorem emit_complete (e : Event) : (s.emit e).complete = s.complete := rfl
@[simp] theorem emit_readErr (e : Event) : (s.emit e).readErr = s.readErr := rfl
@[simp] theorem emit_busErr (e : Event) : (s.emit e).busErr = s.busErr := rfl
@[simp] theorem emit_cooling (e : Event) : (s.emit e).cooling = s.cooling := rfl
@[simp] theorem emit_dropped (e : Event) : (s.emit e).dropped = s.dropped := rfl
@[simp] theorem emit_cause (e : Event) : (s.emit e).cause = s.cause := rfl
@[simp] theorem emit_wrIdx (e : Event) : (s.emit e).wrIdx = s.wrIdx := rfl
@[simp] theorem emit_rdCnt (e : Event) : (s.emit e).rdCnt = s.rdCnt := rfl
@[simp] theorem emit_frameSeq (e : Event) : (s.emit e).frameSeq = s.frameSeq := rfl
@[simp] theorem emit_arbFault (e : Event) : (s.emit e).arbFault = s.arbFault := rfl
@[simp] theorem emit_fb (e : Event) : (s.emit e).fb = s.fb := rfl
@[simp] theorem emit_fbDraw (e : Event) : (s.emit e).fbDraw = s.fbDraw := rfl
@[simp] theorem emit_payErrDraw (e : Event) : (s.emit e).payErrDraw = s.payErrDraw := rfl
@[simp] theorem emit_sideband (e : Event) : (s.emit e).sideband = s.sideband := rfl
@[simp] theorem emit_inputs (e : Event) : (s.emit e).inputs = s.inputs := rfl
@[simp] theorem emit_params (e : Event) : (s.emit e).params = s.params := rfl
@[simp] theorem emit_outputs (e : Event) : (s.emit e).outputs = { s.outputs with events := s.outputs.events ++ [e] } := rfl

/-! ### clearRecord -/

@[simp] theorem clearRecord_cfgLen : (clearRecord s).cfgLen = s.cfgLen := rfl
@[simp] theorem clearRecord_cfgPps : (clearRecord s).cfgPps = s.cfgPps := rfl
@[simp] theorem clearRecord_cfgSpf : (clearRecord s).cfgSpf = s.cfgSpf := rfl
@[simp] theorem clearRecord_fsm : (clearRecord s).fsm = s.fsm := rfl
@[simp] theorem clearRecord_seg : (clearRecord s).seg = s.seg := rfl
@[simp] theorem clearRecord_pkt : (clearRecord s).pkt = s.pkt := rfl
@[simp] theorem clearRecord_written : (clearRecord s).written = false := rfl
@[simp] theorem clearRecord_resyncPending : (clearRecord s).resyncPending = s.resyncPending := rfl
@[simp] theorem clearRecord_resyncT0 : (clearRecord s).resyncT0 = s.resyncT0 := rfl
@[simp] theorem clearRecord_complete : (clearRecord s).complete = false := rfl
@[simp] theorem clearRecord_readErr : (clearRecord s).readErr = false := rfl
@[simp] theorem clearRecord_busErr : (clearRecord s).busErr = false := rfl
@[simp] theorem clearRecord_cooling : (clearRecord s).cooling = false := rfl
@[simp] theorem clearRecord_dropped : (clearRecord s).dropped = false := rfl
@[simp] theorem clearRecord_cause : (clearRecord s).cause = .none := rfl
@[simp] theorem clearRecord_wrIdx : (clearRecord s).wrIdx = s.wrIdx := rfl
@[simp] theorem clearRecord_rdCnt : (clearRecord s).rdCnt = s.rdCnt := rfl
@[simp] theorem clearRecord_frameSeq : (clearRecord s).frameSeq = s.frameSeq := rfl
@[simp] theorem clearRecord_arbFault : (clearRecord s).arbFault = s.arbFault := rfl
@[simp] theorem clearRecord_fb : (clearRecord s).fb = s.fb := rfl
@[simp] theorem clearRecord_fbDraw : (clearRecord s).fbDraw = s.fbDraw := rfl
@[simp] theorem clearRecord_payErrDraw : (clearRecord s).payErrDraw = s.payErrDraw := rfl
@[simp] theorem clearRecord_sideband : (clearRecord s).sideband = s.sideband := rfl
@[simp] theorem clearRecord_inputs : (clearRecord s).inputs = s.inputs := rfl
@[simp] theorem clearRecord_params : (clearRecord s).params = s.params := rfl
@[simp] theorem clearRecord_outputs : (clearRecord s).outputs = s.outputs := rfl

/-! ### requestResync -/

@[simp] theorem requestResync_cfgLen : (requestResync s).cfgLen = s.cfgLen := rfl
@[simp] theorem requestResync_cfgPps : (requestResync s).cfgPps = s.cfgPps := rfl
@[simp] theorem requestResync_cfgSpf : (requestResync s).cfgSpf = s.cfgSpf := rfl
@[simp] theorem requestResync_fsm : (requestResync s).fsm = s.fsm := rfl
@[simp] theorem requestResync_seg : (requestResync s).seg = s.seg := rfl
@[simp] theorem requestResync_pkt : (requestResync s).pkt = s.pkt := rfl
@[simp] theorem requestResync_written : (requestResync s).written = s.written := rfl
@[simp] theorem requestResync_resyncPending : (requestResync s).resyncPending = true := rfl
@[simp] theorem requestResync_resyncT0 : (requestResync s).resyncT0 = s.sideband.now := rfl
@[simp] theorem requestResync_complete : (requestResync s).complete = s.complete := rfl
@[simp] theorem requestResync_readErr : (requestResync s).readErr = s.readErr := rfl
@[simp] theorem requestResync_busErr : (requestResync s).busErr = s.busErr := rfl
@[simp] theorem requestResync_cooling : (requestResync s).cooling = s.cooling := rfl
@[simp] theorem requestResync_dropped : (requestResync s).dropped = s.dropped := rfl
@[simp] theorem requestResync_cause : (requestResync s).cause = s.cause := rfl
@[simp] theorem requestResync_wrIdx : (requestResync s).wrIdx = s.wrIdx := rfl
@[simp] theorem requestResync_rdCnt : (requestResync s).rdCnt = s.rdCnt := rfl
@[simp] theorem requestResync_frameSeq : (requestResync s).frameSeq = s.frameSeq := rfl
@[simp] theorem requestResync_arbFault : (requestResync s).arbFault = s.arbFault := rfl
@[simp] theorem requestResync_fb : (requestResync s).fb = s.fb := rfl
@[simp] theorem requestResync_fbDraw : (requestResync s).fbDraw = s.fbDraw := rfl
@[simp] theorem requestResync_payErrDraw : (requestResync s).payErrDraw = s.payErrDraw := rfl
@[simp] theorem requestResync_sideband : (requestResync s).sideband = s.sideband := rfl
@[simp] theorem requestResync_inputs : (requestResync s).inputs = s.inputs := rfl
@[simp] theorem requestResync_params : (requestResync s).params = s.params := rfl
@[simp] theorem requestResync_outputs : (requestResync s).outputs = s.outputs := rfl

/-! ### startInvocation -/

@[simp] theorem startInvocation_cfgLen : (startInvocation s).cfgLen = s.cfgLen := rfl
@[simp] theorem startInvocation_cfgPps : (startInvocation s).cfgPps = s.cfgPps := rfl
@[simp] theorem startInvocation_cfgSpf : (startInvocation s).cfgSpf = s.cfgSpf := rfl
@[simp] theorem startInvocation_fsm : (startInvocation s).fsm = .reading := rfl
@[simp] theorem startInvocation_seg : (startInvocation s).seg = 1#3 := rfl
@[simp] theorem startInvocation_pkt : (startInvocation s).pkt = 0#12 := rfl
@[simp] theorem startInvocation_written : (startInvocation s).written = s.written := rfl
@[simp] theorem startInvocation_resyncPending : (startInvocation s).resyncPending = false := rfl
@[simp] theorem startInvocation_resyncT0 : (startInvocation s).resyncT0 = s.resyncT0 := rfl
@[simp] theorem startInvocation_complete : (startInvocation s).complete = s.complete := rfl
@[simp] theorem startInvocation_readErr : (startInvocation s).readErr = s.readErr := rfl
@[simp] theorem startInvocation_busErr : (startInvocation s).busErr = s.busErr := rfl
@[simp] theorem startInvocation_cooling : (startInvocation s).cooling = s.cooling := rfl
@[simp] theorem startInvocation_dropped : (startInvocation s).dropped = s.dropped := rfl
@[simp] theorem startInvocation_cause : (startInvocation s).cause = s.cause := rfl
@[simp] theorem startInvocation_wrIdx : (startInvocation s).wrIdx = s.wrIdx := rfl
@[simp] theorem startInvocation_rdCnt : (startInvocation s).rdCnt = s.rdCnt := rfl
@[simp] theorem startInvocation_frameSeq : (startInvocation s).frameSeq = s.frameSeq := rfl
@[simp] theorem startInvocation_arbFault : (startInvocation s).arbFault = s.arbFault := rfl
@[simp] theorem startInvocation_fb : (startInvocation s).fb = s.fb := rfl
@[simp] theorem startInvocation_fbDraw : (startInvocation s).fbDraw = s.fbDraw := rfl
@[simp] theorem startInvocation_payErrDraw : (startInvocation s).payErrDraw = s.payErrDraw := rfl
@[simp] theorem startInvocation_sideband : (startInvocation s).sideband = s.sideband := rfl
@[simp] theorem startInvocation_inputs : (startInvocation s).inputs = s.inputs := rfl
@[simp] theorem startInvocation_params : (startInvocation s).params = s.params := rfl
@[simp] theorem startInvocation_outputs : (startInvocation s).outputs = s.outputs := rfl

/-! ### storeSlot -/

@[simp] theorem storeSlot_cfgLen (bs : List Byte) : (storeSlot bs s).cfgLen = s.cfgLen := rfl
@[simp] theorem storeSlot_cfgPps (bs : List Byte) : (storeSlot bs s).cfgPps = s.cfgPps := rfl
@[simp] theorem storeSlot_cfgSpf (bs : List Byte) : (storeSlot bs s).cfgSpf = s.cfgSpf := rfl
@[simp] theorem storeSlot_fsm (bs : List Byte) : (storeSlot bs s).fsm = s.fsm := rfl
@[simp] theorem storeSlot_seg (bs : List Byte) : (storeSlot bs s).seg = s.seg := rfl
@[simp] theorem storeSlot_pkt (bs : List Byte) : (storeSlot bs s).pkt = s.pkt := rfl
@[simp] theorem storeSlot_written (bs : List Byte) : (storeSlot bs s).written = true := rfl
@[simp] theorem storeSlot_resyncPending (bs : List Byte) : (storeSlot bs s).resyncPending = s.resyncPending := rfl
@[simp] theorem storeSlot_resyncT0 (bs : List Byte) : (storeSlot bs s).resyncT0 = s.resyncT0 := rfl
@[simp] theorem storeSlot_complete (bs : List Byte) : (storeSlot bs s).complete = s.complete := rfl
@[simp] theorem storeSlot_readErr (bs : List Byte) : (storeSlot bs s).readErr = s.readErr := rfl
@[simp] theorem storeSlot_busErr (bs : List Byte) : (storeSlot bs s).busErr = s.busErr := rfl
@[simp] theorem storeSlot_cooling (bs : List Byte) : (storeSlot bs s).cooling = s.cooling := rfl
@[simp] theorem storeSlot_dropped (bs : List Byte) : (storeSlot bs s).dropped = s.dropped := rfl
@[simp] theorem storeSlot_cause (bs : List Byte) : (storeSlot bs s).cause = s.cause := rfl
@[simp] theorem storeSlot_wrIdx (bs : List Byte) : (storeSlot bs s).wrIdx = s.wrIdx := rfl
@[simp] theorem storeSlot_rdCnt (bs : List Byte) : (storeSlot bs s).rdCnt = s.rdCnt := rfl
@[simp] theorem storeSlot_frameSeq (bs : List Byte) : (storeSlot bs s).frameSeq = s.frameSeq := rfl
@[simp] theorem storeSlot_arbFault (bs : List Byte) : (storeSlot bs s).arbFault = s.arbFault := rfl
@[simp] theorem storeSlot_fb (bs : List Byte) : (storeSlot bs s).fb = s.fb.write (slotAddr s) bs := rfl
@[simp] theorem storeSlot_fbDraw (bs : List Byte) : (storeSlot bs s).fbDraw = s.fbDraw := rfl
@[simp] theorem storeSlot_payErrDraw (bs : List Byte) : (storeSlot bs s).payErrDraw = s.payErrDraw := rfl
@[simp] theorem storeSlot_sideband (bs : List Byte) : (storeSlot bs s).sideband = s.sideband := rfl
@[simp] theorem storeSlot_inputs (bs : List Byte) : (storeSlot bs s).inputs = s.inputs := rfl
@[simp] theorem storeSlot_params (bs : List Byte) : (storeSlot bs s).params = s.params := rfl
@[simp] theorem storeSlot_outputs (bs : List Byte) : (storeSlot bs s).outputs = s.outputs := rfl

/-! ### recordCause -/

@[simp] theorem recordCause_cfgLen (c : Cause) : (recordCause c s).cfgLen = s.cfgLen := by cases c <;> rfl
@[simp] theorem recordCause_cfgPps (c : Cause) : (recordCause c s).cfgPps = s.cfgPps := by cases c <;> rfl
@[simp] theorem recordCause_cfgSpf (c : Cause) : (recordCause c s).cfgSpf = s.cfgSpf := by cases c <;> rfl
@[simp] theorem recordCause_fsm (c : Cause) : (recordCause c s).fsm = s.fsm := by cases c <;> rfl
@[simp] theorem recordCause_seg (c : Cause) : (recordCause c s).seg = s.seg := by cases c <;> rfl
@[simp] theorem recordCause_pkt (c : Cause) : (recordCause c s).pkt = s.pkt := by cases c <;> rfl
@[simp] theorem recordCause_written (c : Cause) : (recordCause c s).written = s.written := by cases c <;> rfl
@[simp] theorem recordCause_resyncPending (c : Cause) : (recordCause c s).resyncPending = s.resyncPending := by cases c <;> rfl
@[simp] theorem recordCause_resyncT0 (c : Cause) : (recordCause c s).resyncT0 = s.resyncT0 := by cases c <;> rfl
@[simp] theorem recordCause_complete (c : Cause) : (recordCause c s).complete = s.complete := by cases c <;> rfl
@[simp] theorem recordCause_readErr (c : Cause) :
    (recordCause c s).readErr = (s.readErr || decide (c = .seqMismatch ∨ c = .tagMismatch)) := by
  cases c <;> simp [recordCause]
@[simp] theorem recordCause_busErr (c : Cause) :
    (recordCause c s).busErr = (s.busErr || decide (c = .busError)) := by cases c <;> simp [recordCause]
@[simp] theorem recordCause_cooling (c : Cause) :
    (recordCause c s).cooling = (s.cooling || decide (c = .cooling)) := by cases c <;> simp [recordCause]
@[simp] theorem recordCause_dropped (c : Cause) : (recordCause c s).dropped = s.dropped := by cases c <;> rfl
@[simp] theorem recordCause_cause (c : Cause) : (recordCause c s).cause = c := by cases c <;> rfl
@[simp] theorem recordCause_wrIdx (c : Cause) : (recordCause c s).wrIdx = s.wrIdx := by cases c <;> rfl
@[simp] theorem recordCause_rdCnt (c : Cause) : (recordCause c s).rdCnt = s.rdCnt := by cases c <;> rfl
@[simp] theorem recordCause_frameSeq (c : Cause) : (recordCause c s).frameSeq = s.frameSeq := by cases c <;> rfl
@[simp] theorem recordCause_arbFault (c : Cause) : (recordCause c s).arbFault = s.arbFault := by cases c <;> rfl
@[simp] theorem recordCause_fb (c : Cause) : (recordCause c s).fb = s.fb := by cases c <;> rfl
@[simp] theorem recordCause_fbDraw (c : Cause) : (recordCause c s).fbDraw = s.fbDraw := by cases c <;> rfl
@[simp] theorem recordCause_payErrDraw (c : Cause) : (recordCause c s).payErrDraw = s.payErrDraw := by cases c <;> rfl
@[simp] theorem recordCause_sideband (c : Cause) : (recordCause c s).sideband = s.sideband := by cases c <;> rfl
@[simp] theorem recordCause_inputs (c : Cause) : (recordCause c s).inputs = s.inputs := by cases c <;> rfl
@[simp] theorem recordCause_params (c : Cause) : (recordCause c s).params = s.params := by cases c <;> rfl
@[simp] theorem recordCause_outputs (c : Cause) : (recordCause c s).outputs = s.outputs := by cases c <;> rfl

/-! ### finish -/

@[simp] theorem finish_cfgLen : (finish s).cfgLen = s.cfgLen := rfl
@[simp] theorem finish_cfgPps : (finish s).cfgPps = s.cfgPps := rfl
@[simp] theorem finish_cfgSpf : (finish s).cfgSpf = s.cfgSpf := rfl
@[simp] theorem finish_fsm : (finish s).fsm = .idle := rfl
@[simp] theorem finish_seg : (finish s).seg = s.seg := rfl
@[simp] theorem finish_pkt : (finish s).pkt = s.pkt := rfl
@[simp] theorem finish_written : (finish s).written = s.written := rfl
@[simp] theorem finish_resyncPending : (finish s).resyncPending = s.resyncPending := rfl
@[simp] theorem finish_resyncT0 : (finish s).resyncT0 = s.resyncT0 := rfl
@[simp] theorem finish_complete : (finish s).complete = s.complete := rfl
@[simp] theorem finish_readErr : (finish s).readErr = s.readErr := rfl
@[simp] theorem finish_busErr : (finish s).busErr = s.busErr := rfl
@[simp] theorem finish_cooling : (finish s).cooling = s.cooling := rfl
@[simp] theorem finish_dropped : (finish s).dropped = s.dropped := rfl
@[simp] theorem finish_cause : (finish s).cause = s.cause := rfl
@[simp] theorem finish_wrIdx : (finish s).wrIdx = s.wrIdx := rfl
@[simp] theorem finish_rdCnt : (finish s).rdCnt = s.rdCnt := rfl
@[simp] theorem finish_frameSeq : (finish s).frameSeq = s.frameSeq := rfl
@[simp] theorem finish_arbFault : (finish s).arbFault = s.arbFault := rfl
@[simp] theorem finish_fb : (finish s).fb = s.fb := rfl
@[simp] theorem finish_fbDraw : (finish s).fbDraw = s.fbDraw := rfl
@[simp] theorem finish_payErrDraw : (finish s).payErrDraw = s.payErrDraw := rfl
@[simp] theorem finish_sideband : (finish s).sideband = s.sideband := rfl
@[simp] theorem finish_inputs : (finish s).inputs = s.inputs := rfl
@[simp] theorem finish_params : (finish s).params = s.params := rfl
@[simp] theorem finish_outputs : (finish s).outputs =
    { s.outputs with events := s.outputs.events ++ [.done (cr0 { s with fsm := .idle })] } := rfl

/-! ### CR0 reads none of the model's own fields -/

@[simp] theorem cr0_emit (e : Event) : cr0 (s.emit e) = cr0 s := rfl

@[simp] theorem cr0_quiet : cr0 s.quiet = cr0 s := rfl

@[simp] theorem cr0_answer (r : Resp) (d : ReturnData) : cr0 (s.answer r d) = cr0 s := rfl

/-- Finish reports CR0 as it stands after the step. -/
theorem finish_done : (finish s).outputs.events = s.outputs.events ++ [.done (cr0 (finish s))] := rfl

end Sys2Proof.Machine
end

