-- ==== Sys2Proof/Laws/Ops.lean ====
section
/-! SUPPORT. One lemma per shared operation that says once what it does. -/

namespace Sys2Proof.Machine

/-! ### The port check and the taking of a packet -/

/-- What the port check can answer. -/
theorem checkPort_eq_next {i : Instr} {s t : State} {rule : State → Result}
    (h : checkPort i s rule = .next t) :
    (mayIssue s.sideband.port i = true ∧ rule s = .next t)
    ∨ (mayIssue s.sideband.port i = false ∧ t = s.answer .illegal) := by
  unfold checkPort at h
  cases hm : mayIssue s.sideband.port i
  · simp only [hm] at h
    cases h
    exact .inr ⟨rfl, rfl⟩
  · simp only [hm, if_true] at h
    exact .inl ⟨rfl, h⟩

theorem checkPort_allowed {i : Instr} {s : State} (rule : State → Result)
    (h : mayIssue s.sideband.port i = true) : checkPort i s rule = rule s := by
  simp [checkPort, h]

theorem checkPort_foreign {i : Instr} {s : State} (rule : State → Result)
    (h : mayIssue s.sideband.port i = false) : checkPort i s rule = .next (s.answer .illegal) := by
  simp [checkPort, h]

/-- `pkt_ready` is READING. -/
@[simp] theorem pktReady_iff (s : State) : pktReady s = true ↔ s.fsm = .reading := by
  cases h : s.fsm <;> simp [pktReady, streamSel, fsmBit, h]

theorem takePacket_reading {s : State} (rule : State → Result) (h : s.fsm = .reading) :
    takePacket s rule = rule s.quiet := by
  simp [takePacket, h]

theorem takePacket_idle {s : State} (rule : State → Result) (h : s.fsm = .idle) :
    takePacket s rule = .next s.quiet := by
  simp [takePacket, h]

/-- What the taking of a packet can answer. -/
theorem takePacket_eq_next {s t : State} {rule : State → Result}
    (h : takePacket s rule = .next t) :
    (s.fsm = .reading ∧ rule s.quiet = .next t) ∨ (s.fsm = .idle ∧ t = s.quiet) := by
  cases hf : s.fsm
  · rw [takePacket_idle rule hf] at h
    cases h
    exact .inr ⟨rfl, rfl⟩
  · rw [takePacket_reading rule hf] at h
    exact .inl ⟨rfl, h⟩

/-! ### Ending an invocation -/

/-- `raise` records the cause and ends the invocation; the two desynchronizations also request a resync. -/
theorem raise_eq (c : Cause) (s : State) :
    raise c s = finish (if c = .seqMismatch ∨ c = .tagMismatch then requestResync (recordCause c s)
      else recordCause c s) := by
  cases c <;> simp [raise, invalidate]

/-- The one event that ends an invocation carries CR0 as it stands after the step. -/
theorem raise_events (c : Cause) (s : State) :
    (raise c s).outputs.events = s.outputs.events ++ [.done (cr0 (raise c s))] := by
  cases c <;> rfl

/-! ### The geometry and the slot -/

/-- The legality test of CFG_WRITE, in words. -/
theorem legalGeometry_iff (p : Params) (spf : SegIdx) (pps : PktIdx) (len : PayLen) :
    legalGeometry p spf pps len = true ↔
      len.toNat ∈ p.legalLens ∧ 1 ≤ pps.toNat ∧ pps.toNat ≤ 3840 ∧ 1 ≤ spf.toNat
        ∧ frameBytes spf pps len ≤ p.frameMax := by
  simp only [legalGeometry, Bool.and_eq_true, decide_eq_true_eq, List.contains_iff_mem]
  simp only [Config.maxPps]
  tauto

/-- What a machine's static parameters owe the invariants: positive widths and a legal reset geometry. -/
theorem legalParams_facts {p : Params} (h : legalParams p = true) :
    1 ≤ p.timeW ∧ 1 ≤ p.rcW ∧ 1 ≤ p.seqW ∧ p.cooldown < 2 ^ p.timeW
      ∧ legalGeometry p p.resetSpf p.resetPps p.resetLen = true := by
  simp only [legalParams, Bool.and_eq_true, decide_eq_true_eq] at h
  tauto

/-- What it means that the expected slot exists. -/
theorem slotExists_iff (s : State) :
    slotExists s = true ↔
      legalGeometry s.params s.cfgSpf s.cfgPps s.cfgLen = true ∧ 1 ≤ s.seg.toNat
        ∧ s.seg.toNat ≤ s.cfgSpf.toNat ∧ s.pkt.toNat < s.cfgPps.toNat := by
  simp only [slotExists, Bool.and_eq_true, decide_eq_true_eq]
  tauto

@[simp] theorem slotExists_quiet (s : State) : slotExists s.quiet = slotExists s := rfl

@[simp] theorem slotAddr_quiet (s : State) : slotAddr s.quiet = slotAddr s := rfl

@[simp] theorem payloadBytes_quiet (s : State) : payloadBytes s.quiet = payloadBytes s := rfl

@[simp] theorem payErrBytes_quiet (s : State) : payErrBytes s.quiet = payErrBytes s := rfl

/-- A slot of the slot space ends below FrameBytes (R41). -/
theorem slotOffset_add_le {spf : SegIdx} {pps : PktIdx} {len : PayLen} {seg : SegIdx}
    {pkt : PktIdx} (h1 : 1 ≤ seg.toNat) (h2 : seg.toNat ≤ spf.toNat)
    (h3 : pkt.toNat < pps.toNat) :
    slotOffset pps len seg pkt + len.toNat ≤ frameBytes spf pps len := by
  have key : ((seg.toNat - 1) * pps.toNat + pkt.toNat + 1) ≤ spf.toNat * pps.toNat := by
    obtain ⟨m, hm⟩ : ∃ m, seg.toNat = m + 1 := ⟨seg.toNat - 1, by omega⟩
    have hle : (m + 1) * pps.toNat ≤ spf.toNat * pps.toNat := Nat.mul_le_mul_right _ (by omega)
    rw [hm, Nat.add_sub_cancel]
    rw [Nat.add_mul] at hle
    omega
  calc slotOffset pps len seg pkt + len.toNat
      = ((seg.toNat - 1) * pps.toNat + pkt.toNat + 1) * len.toNat := by
        simp only [slotOffset, Nat.add_mul, Nat.one_mul]
    _ ≤ spf.toNat * pps.toNat * len.toNat := Nat.mul_le_mul_right _ key
    _ = frameBytes spf pps len := rfl

/-- An existing slot lies inside one buffer of the frame store. -/
theorem slotExists_inBuffer {s : State} (h : slotExists s = true) :
    slotOffset s.cfgPps s.cfgLen s.seg s.pkt + s.cfgLen.toNat ≤ s.params.frameMax := by
  obtain ⟨hg, h1, h2, h3⟩ := (slotExists_iff s).1 h
  exact Nat.le_trans (slotOffset_add_le h1 h2 h3) ((legalGeometry_iff _ _ _ _).1 hg).2.2.2.2

/-- The payload of a packet has `cfg_len` bytes. -/
@[simp] theorem payloadBytes_length (s : State) : (payloadBytes s).length = s.cfgLen.toNat := by
  have := s.cfgLen.isLt
  simp [payloadBytes, Config.maxLen]
  omega

/-- Payload byte `i` is lane `i`. -/
theorem payloadBytes_getElem {s : State} {i : Nat} (h : i < Config.maxLen)
    (hi : i < s.cfgLen.toNat) : (payloadBytes s)[i]? = some s.sideband.payload[i] := by
  simp [payloadBytes, hi, h]

@[simp] theorem payErrBytes_length (s : State) : (payErrBytes s).length = s.cfgLen.toNat := by
  simp [payErrBytes]

/-! ### Reading bytes after a store -/

/-- A byte read depends on the frame store and the drawing in force only. -/
theorem fbByte_congr {s t : State} (hfb : t.fb = s.fb) (hd : t.fbDraw = s.fbDraw) (x : Nat) :
    t.fbByte x = s.fbByte x := by
  simp [State.fbByte, hfb, hd]

/-- Outside the written run a byte reads as before. -/
theorem fbByte_write_outside {s t : State} {a : Nat} {bs : List Byte} (hfb : t.fb = s.fb.write a bs)
    (hd : t.fbDraw = s.fbDraw) {x : Nat} (hx : x < a ∨ a + bs.length ≤ x) :
    t.fbByte x = s.fbByte x := by
  simp [State.fbByte, hfb, hd, Memory.read_write_outside _ _ _ _ hx]

/-- Inside the written run a byte reads as written. -/
theorem fbByte_write_inside {s t : State} {a : Nat} {bs : List Byte} (hfb : t.fb = s.fb.write a bs)
    {i : Nat} {b : Byte} (hb : bs[i]? = some b) : t.fbByte (a + i) = b := by
  have hi : i < bs.length := (List.getElem?_eq_some_iff.1 hb).1
  simp [State.fbByte, hfb, Memory.read_write_inside _ a bs (a + i) (by omega) (by omega), hb]

/-- The two buffers do not overlap: an address of the read buffer is outside any run of the write buffer. -/
theorem linear_other_buffer {p : Params} {w : BufIdx} {a n off : Nat} (hoff : off < p.frameMax)
    (hn : a + n ≤ p.frameMax) :
    linear p (~~~w) off < linear p w a ∨ linear p w a + n ≤ linear p (~~~w) off := by
  have : w = 0#1 ∨ w = 1#1 := by
    revert w; decide
  rcases this with rfl | rfl <;> simp [linear] <;> omega

/-! ### PUBLISH, Advance and the validation of a stored packet -/

/-- What PUBLISH does (42_arbiter_ops.md R133). -/
theorem publish_free {s : State} (h : s.rdCnt = 0) : publish s =
    ({ s with wrIdx := ~~~s.wrIdx, frameSeq := nextSeq s }).emit (.frameAvail (nextSeq s)) := by
  simp [publish, h]

theorem publish_held {s : State} (h : s.rdCnt ≠ 0) :
    publish s = ({ s with dropped := true }).emit .frameDropped := by
  simp [publish, h]

/-- The ways the validation of a stored packet can go (41_packet_ops.md R104 steps 4 and 5, R106, 42_arbiter_ops.md R133). -/
inductive Validation (id : Half) (s : State) : State → Prop where
  | seqMismatch (h : seqOf s.params id ≠ s.pkt.toNat) : Validation id s (raise .seqMismatch s)
  | restart (hseq : seqOf s.params id = s.pkt.toNat) (hidx : s.pkt.toNat = s.params.tagIdx) (htag : tagOf s.params id = 0) :
      Validation id s { s with pkt := 0#12 }
  | tagMismatch (hseq : seqOf s.params id = s.pkt.toNat) (hidx : s.pkt.toNat = s.params.tagIdx)
      (htag0 : tagOf s.params id ≠ 0) (htag : tagOf s.params id ≠ s.seg.toNat) : Validation id s (raise .tagMismatch s)
  | nextPacket (hseq : seqOf s.params id = s.pkt.toNat)
      (htag : s.pkt.toNat = s.params.tagIdx → tagOf s.params id = s.seg.toNat)
      (h : s.pkt.toNat < s.cfgPps.toNat - 1) : Validation id s { s with pkt := s.pkt + 1#12 }
  | nextSegment (hseq : seqOf s.params id = s.pkt.toNat)
      (htag : s.pkt.toNat = s.params.tagIdx → tagOf s.params id = s.seg.toNat)
      (h : ¬ s.pkt.toNat < s.cfgPps.toNat - 1) (hseg : s.seg.toNat < s.cfgSpf.toNat) :
      Validation id s { s with seg := s.seg + 1#3, pkt := 0#12 }
  | published (hseq : seqOf s.params id = s.pkt.toNat)
      (htag : s.pkt.toNat = s.params.tagIdx → tagOf s.params id = s.seg.toNat)
      (h : ¬ s.pkt.toNat < s.cfgPps.toNat - 1) (hseg : ¬ s.seg.toNat < s.cfgSpf.toNat)
      (hrd : s.rdCnt = 0) :
      Validation id s (finish
        (({ s with complete := true, wrIdx := ~~~s.wrIdx, frameSeq := nextSeq s }).emit
          (.frameAvail (nextSeq s))))
  | dropped (hseq : seqOf s.params id = s.pkt.toNat)
      (htag : s.pkt.toNat = s.params.tagIdx → tagOf s.params id = s.seg.toNat)
      (h : ¬ s.pkt.toNat < s.cfgPps.toNat - 1) (hseg : ¬ s.seg.toNat < s.cfgSpf.toNat)
      (hrd : s.rdCnt ≠ 0) :
      Validation id s (finish (({ s with complete := true, dropped := true }).emit .frameDropped))

end Sys2Proof.Machine
end

