-- ==== Sys2Proof/Laws/Exec.lean ====
section
/-! SUPPORT. What a step can do, said once: one named case per effect of an operation, and the inversion lemmas that give them. -/

namespace Sys2Proof.Machine

/-- The validation of a stored packet goes one of the ways of `Validation`. -/
theorem validatePacket_cases (id : Half) (s : State) : Validation id s (validatePacket id s) := by
  unfold validatePacket
  split
  · exact .seqMismatch ‹_›
  · rename_i hseq
    have hseq : seqOf s.params id = s.pkt.toNat := not_not.1 hseq
    split
    · rename_i h
      exact .restart hseq h.1 h.2
    · rename_i h0
      split
      · rename_i h
        exact .tagMismatch hseq h.1 (fun h' => h0 ⟨h.1, h'⟩) h.2
      · rename_i h
        have htag : s.pkt.toNat = s.params.tagIdx → tagOf s.params id = s.seg.toNat := fun hi =>
          not_not.1 fun hn => h ⟨hi, hn⟩
        unfold advance
        split
        · exact .nextPacket hseq htag ‹_›
        · rename_i hp
          split
          · exact .nextSegment hseq htag hp ‹_›
          · rename_i hs
            by_cases hr : s.rdCnt = 0
            · rw [publish_free (s := { s with complete := true }) hr]
              exact .published hseq htag hp hs hr
            · rw [publish_held (s := { s with complete := true }) hr]
              exact .dropped hseq htag hp hs hr

/-- Everything an operation can do when it answers a next state. -/
inductive Effect : Instr → State → State → Prop where
  /-- NOP, FB_READ, and every REFUSED or ILLEGAL operation word: a response and nothing else. -/
  | answered {i : Instr} {s : State} (r : Resp) (d : ReturnData)
      (hok : r = .ok → i = .nop ∨ ∃ buf off, i = .fbRead buf off)
      (hop : mayIssue .control i = true ∨ mayIssue .reader i = true) : Effect i s (s.answer r d)
  /-- A packet that is not taken, or a discard packet in the middle of a frame. -/
  | ignored {i : Instr} {s : State}
      (hpkt : mayIssue .control i = false ∧ mayIssue .reader i = false) : Effect i s s.quiet
  | cooled {s : State} (hidle : s.fsm = .idle) (hc : inCooldown s = true) :
      Effect .readFrame s (raise .cooling (clearRecord (s.answer .ok)))
  | started {s : State} (hidle : s.fsm = .idle) (hc : inCooldown s = false) :
      Effect .readFrame s (startInvocation (clearRecord (s.answer .ok)))
  | requested {s : State} (hidle : s.fsm = .idle) :
      Effect .resyncReq s (requestResync (s.answer .ok))
  | configured {s : State} (spf : SegIdx) (pps : PktIdx) (len : PayLen) (hidle : s.fsm = .idle)
      (hlegal : legalGeometry s.params spf pps len = true) :
      Effect (.cfgWrite spf pps len) s
        (requestResync { s.answer .ok with cfgLen := len, cfgPps := pps, cfgSpf := spf })
  | acquired {s : State} (h : s.rdCnt ≠ 2 ^ s.params.rcW - 1) :
      Effect .rdAcquire s
        { s.answer .ok (.acquired (rdIdx s) s.frameSeq) with rdCnt := s.rdCnt + 1 }
  | released {s : State} (h : s.rdCnt ≠ 0) :
      Effect .rdRelease s { s.answer .ok with rdCnt := s.rdCnt - 1 }
  | releaseFault {s : State} (h : s.rdCnt = 0) :
      Effect .rdRelease s { s.answer .fault with arbFault := true }
  | busError {i : Instr} {s : State} (hread : s.fsm = .reading)
      (hpkt : (∃ x id crc, i = .pktHdrErr x id crc) ∨ ∃ id crc, i = .pktDiscardPayerr id crc) :
      Effect i s (raise .busError s.quiet)
  | firstDiscard {s : State} (id crc : Half) (hread : s.fsm = .reading)
      (hslot : s.seg = 1#3 ∧ s.pkt = 0#12) :
      Effect (.pktDiscard id crc) s (raise .firstDiscard s.quiet)
  | stored {s t : State} (id crc : Half) (hread : s.fsm = .reading) (hslot : slotExists s = true)
      (hv : Validation id (storeSlot (payloadBytes s) s.quiet) t) :
      Effect (.pktVideo id crc) s t
  | payErr {s : State} (id crc : Half) (hread : s.fsm = .reading) (hslot : slotExists s = true) :
      Effect (.pktVideoPayerr id crc) s
        (raise .busError { storeSlot (payErrBytes s) s.quiet with payErrDraw := s.payErrDraw + 1 })

/-- What `exec` can do when it answers a next state. -/
theorem exec_effect {i : Instr} {s t : State} (h : exec i s = .next t) : Effect i s t := by
  cases i with
  | nop =>
    unfold exec execNop at h
    rcases checkPort_eq_next h with ⟨-, h⟩ | ⟨-, rfl⟩
    · cases h; exact .answered .ok .none (by simp) (by simp [mayIssue])
    · exact .answered .illegal .none (by simp) (by simp [mayIssue])
  | readFrame =>
    unfold exec execReadFrame at h
    rcases checkPort_eq_next h with ⟨-, h⟩ | ⟨-, rfl⟩
    · cases hf : s.fsm
      · simp only [hf, reduceCtorEq, if_false] at h
        cases hc : inCooldown (clearRecord (s.answer .ok))
        · simp only [hc] at h
          cases h; exact .started hf hc
        · simp only [hc, if_true] at h
          cases h; exact .cooled hf hc
      · simp only [hf, if_true] at h
        cases h; exact .answered .refused .none (by simp) (by simp [mayIssue])
    · exact .answered .illegal .none (by simp) (by simp [mayIssue])
  | resyncReq =>
    unfold exec execResyncReq at h
    rcases checkPort_eq_next h with ⟨-, h⟩ | ⟨-, rfl⟩
    · cases hf : s.fsm
      · simp only [hf, reduceCtorEq, if_false] at h
        cases h; exact .requested hf
      · simp only [hf, if_true] at h
        cases h; exact .answered .refused .none (by simp) (by simp [mayIssue])
    · exact .answered .illegal .none (by simp) (by simp [mayIssue])
  | cfgWrite spf pps len =>
    unfold exec execCfgWrite at h
    rcases checkPort_eq_next h with ⟨-, h⟩ | ⟨-, rfl⟩
    · cases hl : legalGeometry s.params spf pps len
      · simp only [hl] at h
        cases h; exact .answered .illegal .none (by simp) (by simp [mayIssue])
      · cases hf : s.fsm
        · simp only [hl, hf, reduceCtorEq, if_false, if_true] at h
          cases h; exact .configured spf pps len hf hl
        · simp only [hl, hf, if_true] at h
          cases h; exact .answered .refused .none (by simp) (by simp [mayIssue])
    · exact .answered .illegal .none (by simp) (by simp [mayIssue])
  | rdAcquire =>
    unfold exec execRdAcquire at h
    rcases checkPort_eq_next h with ⟨-, h⟩ | ⟨-, rfl⟩
    · by_cases hr : s.rdCnt = 2 ^ s.params.rcW - 1
      · simp only [hr, if_true] at h
        cases h; exact .answered .refused .none (by simp) (by simp [mayIssue])
      · simp only [hr, if_false] at h
        cases h; exact .acquired hr
    · exact .answered .illegal .none (by simp) (by simp [mayIssue])
  | rdRelease =>
    unfold exec execRdRelease at h
    rcases checkPort_eq_next h with ⟨-, h⟩ | ⟨-, rfl⟩
    · by_cases hr : s.rdCnt = 0
      · simp only [hr, if_true] at h
        cases h; exact .releaseFault hr
      · simp only [hr, if_false] at h
        cases h; exact .released hr
    · exact .answered .illegal .none (by simp) (by simp [mayIssue])
  | fbRead buf off =>
    unfold exec execFbRead at h
    rcases checkPort_eq_next h with ⟨-, h⟩ | ⟨-, rfl⟩
    · split at h <;> cases h
      · exact .answered .ok _ (by simp) (by simp [mayIssue])
      · exact .answered .illegal .none (by simp) (by simp [mayIssue])
    · exact .answered .illegal .none (by simp) (by simp [mayIssue])
  | pktHdrErr x id crc =>
    unfold exec execPktHdrErr at h
    rcases takePacket_eq_next h with ⟨hf, h⟩ | ⟨-, rfl⟩
    · cases h; exact .busError hf (.inl ⟨x, id, crc, rfl⟩)
    · exact .ignored ⟨rfl, rfl⟩
  | pktDiscard id crc =>
    unfold exec execPktDiscard at h
    rcases takePacket_eq_next h with ⟨hf, h⟩ | ⟨-, rfl⟩
    · split at h <;> cases h
      · exact .firstDiscard id crc hf ‹_›
      · exact .ignored ⟨rfl, rfl⟩
    · exact .ignored ⟨rfl, rfl⟩
  | pktDiscardPayerr id crc =>
    unfold exec execPktDiscardPayerr at h
    rcases takePacket_eq_next h with ⟨hf, h⟩ | ⟨-, rfl⟩
    · cases h; exact .busError hf (.inr ⟨id, crc, rfl⟩)
    · exact .ignored ⟨rfl, rfl⟩
  | pktVideo id crc =>
    unfold exec execPktVideo at h
    rcases takePacket_eq_next h with ⟨hf, h⟩ | ⟨-, rfl⟩
    · split at h <;> cases h
      exact .stored id crc hf ‹_› (validatePacket_cases _ _)
    · exact .ignored ⟨rfl, rfl⟩
  | pktVideoPayerr id crc =>
    unfold exec execPktVideoPayerr at h
    rcases takePacket_eq_next h with ⟨hf, h⟩ | ⟨-, rfl⟩
    · split at h <;> cases h
      exact .payErr id crc hf ‹_›
    · exact .ignored ⟨rfl, rfl⟩

/-! ### What each operation answers, on the states its rule names -/

/-- An operation issued on a port that may not issue it. -/
theorem exec_foreign {i : Instr} {s : State} (h : mayIssue s.sideband.port i = false)
    (hop : mayIssue .control i = true ∨ mayIssue .reader i = true) :
    exec i s = .next (s.answer .illegal) := by
  cases i with
  | nop => unfold exec execNop; exact checkPort_foreign _ h
  | readFrame => unfold exec execReadFrame; exact checkPort_foreign _ h
  | resyncReq => unfold exec execResyncReq; exact checkPort_foreign _ h
  | cfgWrite spf pps len => unfold exec execCfgWrite; exact checkPort_foreign _ h
  | rdAcquire => unfold exec execRdAcquire; exact checkPort_foreign _ h
  | rdRelease => unfold exec execRdRelease; exact checkPort_foreign _ h
  | fbRead buf off => unfold exec execFbRead; exact checkPort_foreign _ h
  | _ => simp [mayIssue] at hop

/-- A packet offered in IDLE. -/
theorem exec_packet_idle {i : Instr} {s : State} (hf : s.fsm = .idle)
    (hpkt : mayIssue .control i = false ∧ mayIssue .reader i = false) :
    exec i s = .next s.quiet := by
  cases i with
  | pktHdrErr x id crc => unfold exec execPktHdrErr; exact takePacket_idle _ hf
  | pktDiscard id crc => unfold exec execPktDiscard; exact takePacket_idle _ hf
  | pktDiscardPayerr id crc => unfold exec execPktDiscardPayerr; exact takePacket_idle _ hf
  | pktVideo id crc => unfold exec execPktVideo; exact takePacket_idle _ hf
  | pktVideoPayerr id crc => unfold exec execPktVideoPayerr; exact takePacket_idle _ hf
  | _ => simp [mayIssue] at hpkt

/-- The test READ_FRAME makes is not touched by the clearing of the record. -/
@[simp] theorem inCooldown_clearRecord (s : State) (r : Resp) (d : ReturnData) :
    inCooldown (clearRecord (s.answer r d)) = inCooldown s := rfl

section control

variable {s : State} (hp : s.sideband.port = .control)
include hp

theorem exec_readFrame_reading (hf : s.fsm = .reading) :
    exec .readFrame s = .next (s.answer .refused) := by
  unfold exec execReadFrame
  simp [checkPort, mayIssue, hp, hf]

theorem exec_readFrame_cooled (hf : s.fsm = .idle) (hc : inCooldown s = true) :
    exec .readFrame s = .next (raise .cooling (clearRecord (s.answer .ok))) := by
  unfold exec execReadFrame
  simp [checkPort, mayIssue, hp, hf, hc]

theorem exec_readFrame_started (hf : s.fsm = .idle) (hc : inCooldown s = false) :
    exec .readFrame s = .next (startInvocation (clearRecord (s.answer .ok))) := by
  unfold exec execReadFrame
  simp [checkPort, mayIssue, hp, hf, hc]

theorem exec_resyncReq_reading (hf : s.fsm = .reading) :
    exec .resyncReq s = .next (s.answer .refused) := by
  unfold exec execResyncReq
  simp [checkPort, mayIssue, hp, hf]

theorem exec_resyncReq_idle (hf : s.fsm = .idle) :
    exec .resyncReq s = .next (requestResync (s.answer .ok)) := by
  unfold exec execResyncReq
  simp [checkPort, mayIssue, hp, hf]

variable {spf : SegIdx} {pps : PktIdx} {len : PayLen}

theorem exec_cfgWrite_illegal (hl : legalGeometry s.params spf pps len = false) :
    exec (.cfgWrite spf pps len) s = .next (s.answer .illegal) := by
  unfold exec execCfgWrite
  simp [checkPort, mayIssue, hp, hl]

theorem exec_cfgWrite_reading (hl : legalGeometry s.params spf pps len = true) (hf : s.fsm = .reading) :
    exec (.cfgWrite spf pps len) s = .next (s.answer .refused) := by
  unfold exec execCfgWrite
  simp [checkPort, mayIssue, hp, hl, hf]

theorem exec_cfgWrite_idle (hl : legalGeometry s.params spf pps len = true) (hf : s.fsm = .idle) :
    exec (.cfgWrite spf pps len) s = .next
      (requestResync { s.answer .ok with cfgLen := len, cfgPps := pps, cfgSpf := spf }) := by
  unfold exec execCfgWrite
  simp [checkPort, mayIssue, hp, hl, hf]

end control

section reader

variable {s : State} (hp : s.sideband.port = .reader)
include hp

theorem exec_rdAcquire_full (h : s.rdCnt = 2 ^ s.params.rcW - 1) :
    exec .rdAcquire s = .next (s.answer .refused) := by
  unfold exec execRdAcquire
  simp [checkPort, mayIssue, hp, h]

theorem exec_rdAcquire_free (h : s.rdCnt ≠ 2 ^ s.params.rcW - 1) :
    exec .rdAcquire s = .next
      { s.answer .ok (.acquired (rdIdx s) s.frameSeq) with rdCnt := s.rdCnt + 1 } := by
  unfold exec execRdAcquire
  simp [checkPort, mayIssue, hp, h]

theorem exec_rdRelease_zero (h : s.rdCnt = 0) :
    exec .rdRelease s = .next { s.answer .fault with arbFault := true } := by
  unfold exec execRdRelease
  simp [checkPort, mayIssue, hp, h]

theorem exec_rdRelease_held (h : s.rdCnt ≠ 0) :
    exec .rdRelease s = .next { s.answer .ok with rdCnt := s.rdCnt - 1 } := by
  unfold exec execRdRelease
  simp [checkPort, mayIssue, hp, h]

theorem exec_fbRead_beyond {buf : BufIdx} {off : Half} (h : s.params.frameMax ≤ off.toNat) :
    exec (.fbRead buf off) s = .next (s.answer .illegal) := by
  unfold exec execFbRead
  simp [checkPort, mayIssue, hp, Nat.not_lt.2 h]

theorem exec_fbRead_within {buf : BufIdx} {off : Half} (h : off.toNat < s.params.frameMax) :
    exec (.fbRead buf off) s =
      .next (s.answer .ok (.byte (s.fbByte (linear s.params buf off.toNat)))) := by
  unfold exec execFbRead
  simp [checkPort, mayIssue, hp, h]

end reader

section stream

variable {s : State} (hf : s.fsm = .reading) (id crc : Half)
include hf

theorem exec_pktHdrErr_reading (x : BitVec 1) :
    exec (.pktHdrErr x id crc) s = .next (raise .busError s.quiet) := by
  unfold exec execPktHdrErr
  exact takePacket_reading _ hf

theorem exec_pktDiscardPayerr_reading :
    exec (.pktDiscardPayerr id crc) s = .next (raise .busError s.quiet) := by
  unfold exec execPktDiscardPayerr
  exact takePacket_reading _ hf

theorem exec_pktDiscard_first (h : s.seg = 1#3 ∧ s.pkt = 0#12) :
    exec (.pktDiscard id crc) s = .next (raise .firstDiscard s.quiet) := by
  unfold exec execPktDiscard
  exact (takePacket_reading _ hf).trans (if_pos h)

theorem exec_pktDiscard_later (h : ¬ (s.seg = 1#3 ∧ s.pkt = 0#12)) :
    exec (.pktDiscard id crc) s = .next s.quiet := by
  unfold exec execPktDiscard
  exact (takePacket_reading _ hf).trans (if_neg h)

theorem exec_pktVideo_reading (hs : slotExists s = true) :
    exec (.pktVideo id crc) s =
      .next (validatePacket id (storeSlot (payloadBytes s) s.quiet)) := by
  unfold exec execPktVideo
  exact (takePacket_reading _ hf).trans (if_pos hs)

theorem exec_pktVideoPayerr_reading (hs : slotExists s = true) :
    exec (.pktVideoPayerr id crc) s = .next
      (raise .busError
        { storeSlot (payErrBytes s) s.quiet with payErrDraw := s.payErrDraw + 1 }) := by
  unfold exec execPktVideoPayerr
  exact (takePacket_reading _ hf).trans (if_pos hs)

theorem exec_pktVideo_noSlot (hs : slotExists s = false) :
    exec (.pktVideo id crc) s = .fault .noSuchSlot := by
  unfold exec execPktVideo
  exact (takePacket_reading _ hf).trans (if_neg (by simp [hs]))

theorem exec_pktVideoPayerr_noSlot (hs : slotExists s = false) :
    exec (.pktVideoPayerr id crc) s = .fault .noSuchSlot := by
  unfold exec execPktVideoPayerr
  exact (takePacket_reading _ hf).trans (if_neg (by simp [hs]))

end stream

/-! ### Taking the next input -/

@[simp] theorem fetch_nil {s : State} (h : s.inputs = []) : fetch s = .settled s.quiet := by
  simp [fetch, h]

theorem fetch_op {s : State} {p : OpPort} {w : Word} {now : Nat} {rest : List Input}
    (h : s.inputs = .op p w now :: rest) : fetch s = takeOp p w now { s with inputs := rest } := by
  simp [fetch, h]

theorem fetch_packet {s : State} {d : Desc} {pay : Payload} {now : Nat} {rest : List Input}
    (h : s.inputs = .packet d pay now :: rest) :
    fetch s = .instr (decodePd s.params d)
      { s with
        inputs := rest
        sideband := { s.sideband with now := sampled s.params now, payload := pay } } := by
  simp [fetch, h, takeDesc]

theorem fetch_reset {s : State} {rest : List Input} (h : s.inputs = .reset :: rest) :
    fetch s = .settled (resetStep { s with inputs := rest }) := by
  simp [fetch, h]

/-- The step once its input is taken. -/
theorem step_of_instr {s s' : State} {i : Instr} (h : fetch s = .instr i s') :
    step s = exec i s' := by
  simp [step, h]

theorem step_of_settled {s t : State} (h : fetch s = .settled t) : step s = .next t := by
  simp [step, h]

/-- What the taking of an operation to perform changes: the inputs and the sidebands, nothing else. -/
theorem fetch_instr_frame {s s' : State} {i : Instr} (h : fetch s = .instr i s') :
    ∃ (rest : List Input) (sb : Sideband), s' = { s with inputs := rest, sideband := sb } := by
  unfold fetch at h
  split at h
  · cases h
  · unfold takeOp at h
    split at h
    · cases h; exact ⟨_, _, rfl⟩
    · cases h
  · cases h; exact ⟨_, _, rfl⟩
  · cases h

/-- An operation that is performed came from an operation word or from a packet. -/
theorem fetch_instr_source {s s' : State} {i : Instr} (h : fetch s = .instr i s') :
    (∃ p w now rest, s.inputs = .op p w now :: rest ∧ decodeOpw w = .instr i)
    ∨ ∃ d pay now rest, s.inputs = .packet d pay now :: rest ∧ i = decodePd s.params d := by
  unfold fetch at h
  split at h
  · cases h
  · rename_i p w now rest hi
    unfold takeOp at h
    split at h
    · rename_i hd
      cases h; exact .inl ⟨p, w, now, rest, hi, hd⟩
    · cases h
  · rename_i d pay now rest hi
    cases h; exact .inr ⟨d, pay, now, rest, hi, rfl⟩
  · cases h

/-- What a step that performs no operation can do. -/
theorem fetch_settled_cases {s t : State} (h : fetch s = .settled t) :
    (s.inputs = [] ∧ t = s.quiet)
    ∨ (∃ (rest : List Input) (sb : Sideband) (p : OpPort) (w : Word) (now : Nat),
        s.inputs = .op p w now :: rest
        ∧ t = ({ s with inputs := rest, sideband := sb }).answer .illegal)
    ∨ ∃ rest, s.inputs = .reset :: rest ∧ t = resetStep { s with inputs := rest } := by
  unfold fetch at h
  split at h
  · cases h; exact .inl ⟨‹_›, rfl⟩
  · rename_i p w now rest hi
    unfold takeOp at h
    split at h
    · cases h
    · cases h; exact .inr (.inl ⟨rest, _, p, w, now, hi, rfl⟩)
  · cases h
  · cases h; exact .inr (.inr ⟨_, ‹_›, rfl⟩)

/-- What a step can do: the effect of an operation at the state with its input taken, or one of the three steps that perform no
operation. -/
theorem step_cases {s t : State} (h : step s = .next t) :
    (∃ i s', fetch s = .instr i s' ∧ Effect i s' t) ∨ fetch s = .settled t := by
  cases hf : fetch s with
  | instr i s' =>
    rw [step_of_instr hf] at h
    exact .inl ⟨i, s', rfl, exec_effect h⟩
  | settled s' =>
    rw [step_of_settled hf] at h
    cases h
    exact .inr rfl

end Sys2Proof.Machine
end

