-- ==== Sys2Proof/Laws/PerInstr.lean ====
section
/-! SUPPORT. The per-instruction family `MatchesTable`: the encoding of a well-formed instruction has the mask and match bits of its
row of spec/opcode_table.json (30_encoding.md R62, R66); the table is written for the reference parameters. -/

namespace Sys2Proof.Laws.MatchesTable

/-- The format, mask and match of the instruction's row of spec/opcode_table.json, and that the encoding has them. -/
def Statement (i : Instr) : Prop :=
  i.WellFormed .reference →
    match i with
    | .nop => encode i = .opw 0x00000000#32
    | .readFrame => encode i = .opw 0x10000000#32
    | .resyncReq => encode i = .opw 0x20000000#32
    | .cfgWrite _ _ _ => ∃ w, encode i = .opw w ∧ w &&& 0xFF800000#32 = 0x30000000#32
    | .rdAcquire => encode i = .opw 0x40000000#32
    | .rdRelease => encode i = .opw 0x50000000#32
    | .fbRead _ _ => ∃ w, encode i = .opw w ∧ w &&& 0xF7FF0000#32 = 0x60000000#32
    | .pktHdrErr _ _ _ => ∃ d, encode i = .pd d ∧ d &&& 0x100000000#34 = 0x100000000#34
    | .pktDiscard _ _ => ∃ d, encode i = .pd d ∧ d &&& 0x3FF000000#34 = 0x00F000000#34
    | .pktDiscardPayerr _ _ => ∃ d, encode i = .pd d ∧ d &&& 0x3FF000000#34 = 0x20F000000#34
    | .pktVideo _ _ => ∃ d, encode i = .pd d ∧ d &&& 0x300000000#34 = 0x000000000#34
    | .pktVideoPayerr _ _ => ∃ d, encode i = .pd d ∧ d &&& 0x300000000#34 = 0x200000000#34

/-- Masking a word put together from two fields masks each field. -/
theorem append_and {n m : Nat} (x u : BitVec n) (y v : BitVec m) :
    (x ++ y) &&& (u ++ v) = (x &&& u) ++ (y &&& v) := by
  ext i hi
  simp only [BitVec.getElem_and, BitVec.getElem_append]
  split <;> rfl

/-- Masking a descriptor masks its three fields. -/
theorem pd_and (xs m : BitVec 2) (id crc u v : Half) :
    (xs ++ id ++ crc) &&& (m ++ u ++ v) = (xs &&& m) ++ (id &&& u) ++ (crc &&& v) := by
  rw [append_and, append_and]

theorem nop : Statement .nop := fun _ => rfl

theorem readFrame : Statement .readFrame := fun _ => rfl

theorem resyncReq : Statement .resyncReq := fun _ => rfl

theorem cfgWrite (spf : SegIdx) (pps : PktIdx) (len : PayLen) :
    Statement (.cfgWrite spf pps len) := by
  refine fun _ => ⟨_, rfl, ?_⟩
  have h := append_and 0x3#4 0xF#4 (0#5 ++ spf ++ pps ++ len) (0x1F#5 ++ 0#3 ++ 0#12 ++ 0#8)
  exact h.trans (by rw [append_and, append_and, append_and]; simp only [BitVec.and_zero]; rfl)

theorem rdAcquire : Statement .rdAcquire := fun _ => rfl

theorem rdRelease : Statement .rdRelease := fun _ => rfl

theorem fbRead (buf : BufIdx) (off : Half) : Statement (.fbRead buf off) := by
  refine fun _ => ⟨_, rfl, ?_⟩
  have h := append_and 0x6#4 0xF#4 (buf ++ 0#11 ++ off) (0#1 ++ 0x7FF#11 ++ 0#16)
  exact h.trans (by rw [append_and, append_and]; simp only [BitVec.and_zero]; rfl)

theorem pktHdrErr (xsHi : BitVec 1) (id crc : Half) : Statement (.pktHdrErr xsHi id crc) := by
  refine fun _ => ⟨_, rfl, ?_⟩
  have h := pd_and (xsHi ++ 1#1) (0#1 ++ 1#1) id crc 0#16 0#16
  exact h.trans (by rw [append_and]; simp only [BitVec.and_zero]; rfl)

theorem pktDiscard (id crc : Half) : Statement (.pktDiscard id crc) := by
  refine fun h => ⟨_, rfl, ?_⟩
  have hid : id &&& 0xFF00#16 = 0x0F00#16 := eq_of_beq h
  have h := pd_and 0#2 3#2 id crc 0xFF00#16 0#16
  rw [hid, BitVec.and_zero] at h
  exact h

theorem pktDiscardPayerr (id crc : Half) : Statement (.pktDiscardPayerr id crc) := by
  refine fun h => ⟨_, rfl, ?_⟩
  have hid : id &&& 0xFF00#16 = 0x0F00#16 := eq_of_beq h
  have h := pd_and 2#2 3#2 id crc 0xFF00#16 0#16
  rw [hid, BitVec.and_zero] at h
  exact h

theorem pktVideo (id crc : Half) : Statement (.pktVideo id crc) := by
  refine fun _ => ⟨_, rfl, ?_⟩
  have h := pd_and 0#2 3#2 id crc 0#16 0#16
  simp only [BitVec.and_zero] at h
  exact h

theorem pktVideoPayerr (id crc : Half) : Statement (.pktVideoPayerr id crc) := by
  refine fun _ => ⟨_, rfl, ?_⟩
  have h := pd_and 2#2 3#2 id crc 0#16 0#16
  simp only [BitVec.and_zero] at h
  exact h

end Sys2Proof.Laws.MatchesTable
end

