-- ==== Sys2Proof/Tests/Slice0.lean ====
section
/-! SUPPORT. The model's own tests, by hand from spec/95_test_vectors.md and spec/30_encoding.md: the well-formedness check, words and
descriptors written out from the encodings, single steps, and for every obligation with hypotheses a witness that meets
them. -/

namespace Sys2Proof.Tests

open Sys2Proof.Machine

-- One declaration after another: checked side by side, the tests reserve a stack each and exhaust the memory limit.
set_option Elab.async false

/-! ### Helpers -/

/-- The result is a next state that satisfies `p`. -/
def nextSat (r : Result) (p : State → Bool) : Bool :=
  match r with
  | .next t => p t
  | .fault _ => false
  | .refused _ => false

theorem exists_of_nextSat {r : Result} {p : State → Bool} (h : nextSat r p = true) :
    ∃ t, r = .next t ∧ p t = true := by
  cases r with
  | next t => exact ⟨t, rfl, h⟩
  | fault _ => cases h
  | refused _ => cases h

/-- `s` with an operation word offered next. -/
def offer (s : State) (port : OpPort) (w : Word) (now : Nat := 0) : State :=
  { s with inputs := [.op port w now] }

/-- `s` with a packet delivered next, every payload byte `b`. -/
def deliver (s : State) (d : Desc) (b : Byte := 0#8) (now : Nat := 0) : State :=
  { s with inputs := [.packet d (fill b) now] }

/-- The state after reset with a reader port sampled. -/
def atReader : State := { State.reset with sideband := { State.reset.sideband with port := .reader } }

/-- An invocation in progress at slot `(seg, pkt)` of the reference geometry, nothing written. -/
def readingAt (seg : SegIdx) (pkt : PktIdx) : State :=
  { State.reset with fsm := .reading, seg := seg, pkt := pkt }

/-- A resync requested at `t0` and pending. -/
def pendingSince (t0 : Time) : State := { State.reset with resyncPending := true, resyncT0 := t0 }

/-- A machine whose discard marker is a mask of bits 15:12 alone, the alternative 0xF000/0xF000 of D7. -/
def broadDiscard : Params := { Params.reference with discardMask := 0xF000#16, discardMatch := 0xF000#16 }

/-- A machine with narrow counters: times of 8 bits, a reader count of 2, a sequence number of 4, a cooldown of 10. -/
def narrow : Params := { Params.reference with timeW := 8, cooldown := 10, rcW := 2, seqW := 4 }

/-! ### Well-formedness -/

theorem test_wf_accepts :
    let wf := Instr.WellFormed .reference
    wf .nop ∧ wf .readFrame ∧ wf .resyncReq ∧ wf (.cfgWrite 0#3 0xFFF#12 0#8) ∧ wf .rdAcquire
      ∧ wf .rdRelease ∧ wf (.fbRead 1#1 0xFFFF#16) ∧ wf (.pktHdrErr 1#1 0x0F00#16 0#16)
      ∧ wf (.pktDiscard 0x0F00#16 0#16) ∧ wf (.pktDiscardPayerr 0x0FFF#16 0#16)
      ∧ wf (.pktVideo 0x1F00#16 0#16) ∧ wf (.pktVideoPayerr 0x0EFF#16 0#16) := by decide

theorem test_wf_refuses_pktDiscard : ¬ Instr.WellFormed .reference (.pktDiscard 0x1F00#16 0#16) := by decide

theorem test_wf_refuses_pktDiscardPayerr : ¬ Instr.WellFormed .reference (.pktDiscardPayerr 0x0EFF#16 0#16) := by
  decide

theorem test_wf_refuses_pktVideo : ¬ Instr.WellFormed .reference (.pktVideo 0x0F00#16 0#16) := by decide

theorem test_wf_refuses_pktVideoPayerr : ¬ Instr.WellFormed .reference (.pktVideoPayerr 0x0FFF#16 0#16) := by
  decide

/-! ### Decoding: one word for every constructor, from 30_encoding.md R62 to R66 and 95_test_vectors.md V1, V4 -/

theorem test_decode_nop : decode .reference (.opw 0x00000000#32) = .instr .nop := by decide

theorem test_decode_readFrame : decode .reference (.opw 0x10000000#32) = .instr .readFrame := by decide

theorem test_decode_resyncReq : decode .reference (.opw 0x20000000#32) = .instr .resyncReq := by decide

/-- `0011 00000 100 000000111100 11110000`: S = 4, P = 60, L = 240. -/
theorem test_decode_cfgWrite :
    decode .reference (.opw 0b00110000010000000011110011110000#32) = .instr (.cfgWrite 4#3 60#12 240#8) := by
  decide

theorem test_decode_rdAcquire : decode .reference (.opw 0x40000000#32) = .instr .rdAcquire := by decide

theorem test_decode_rdRelease : decode .reference (.opw 0x50000000#32) = .instr .rdRelease := by decide

/-- `0110 1 00000000000 0000000100100011`: buf = 1, off = 0x0123. -/
theorem test_decode_fbRead :
    decode .reference (.opw 0b01101000000000000000000100100011#32) = .instr (.fbRead 1#1 0x0123#16) := by
  decide

/-- `1_FFFF_FFFF`. -/
theorem test_decode_pktHdrErr :
    decode .reference (.pd 0x1FFFFFFFF#34) = .instr (.pktHdrErr 0#1 0xFFFF#16 0xFFFF#16) := by decide

/-- `0_0FFF_0000`. -/
theorem test_decode_pktDiscard :
    decode .reference (.pd 0x00FFF0000#34) = .instr (.pktDiscard 0x0FFF#16 0#16) := by decide

/-- `2_0F00_0000`. -/
theorem test_decode_pktDiscardPayerr :
    decode .reference (.pd 0x20F000000#34) = .instr (.pktDiscardPayerr 0x0F00#16 0#16) := by decide

/-- `0_F000_0000`: not a discard packet under the reference mask (90_conflicts.md C1). -/
theorem test_decode_pktVideo :
    decode .reference (.pd 0x0F0000000#34) = .instr (.pktVideo 0xF000#16 0#16) := by decide

/-- `2_0005_0000`. -/
theorem test_decode_pktVideoPayerr :
    decode .reference (.pd 0x200050000#34) = .instr (.pktVideoPayerr 0x0005#16 0#16) := by decide

theorem test_decode_rejects :
    decode .reference (.opw 0x00000001#32) = .rejected .mustBeZero
      ∧ decode .reference (.opw 0x18000000#32) = .rejected .mustBeZero
      ∧ decode .reference (.opw 0x30803CA0#32) = .rejected .mustBeZero
      ∧ decode .reference (.opw 0x60010000#32) = .rejected .mustBeZero
      ∧ decode .reference (.opw 0x70000000#32) = .rejected .reservedOpcode
      ∧ decode .reference (.opw 0xF0000000#32) = .rejected .reservedOpcode := by decide

/-- The host's numbering: every row of spec/opcode_table.json, the match word of the row. -/
theorem test_decodeTableWord_rows :
    decodeTableWord 32 0x00000000 = some .nop
      ∧ decodeTableWord 32 0x10000000 = some .readFrame
      ∧ decodeTableWord 32 0x20000000 = some .resyncReq
      ∧ decodeTableWord 32 0x30000000 = some (.cfgWrite 0#3 0#12 0#8)
      ∧ decodeTableWord 32 0x40000000 = some .rdAcquire
      ∧ decodeTableWord 32 0x50000000 = some .rdRelease
      ∧ decodeTableWord 32 0x60000000 = some (.fbRead 0#1 0#16)
      ∧ decodeTableWord 40 0x100000000 = some (.pktHdrErr 0#1 0#16 0#16)
      ∧ decodeTableWord 40 0x20F000000 = some (.pktDiscardPayerr 0x0F00#16 0#16)
      ∧ decodeTableWord 40 0x00F000000 = some (.pktDiscard 0x0F00#16 0#16)
      ∧ decodeTableWord 40 0x200000000 = some (.pktVideoPayerr 0#16 0#16)
      ∧ decodeTableWord 40 0x000000000 = some (.pktVideo 0#16 0#16)
      ∧ decodeTableWord 32 0x70000000 = none ∧ decodeTableWord 40 0x400000000 = none := by decide

/-- The rows' match words and how many bits the table gives each, in whole bytes. -/
def tableWords : List (Nat × Nat) :=
  [(32, 0x00000000), (32, 0x10000000), (32, 0x20000000), (32, 0x30000000), (32, 0x40000000),
   (32, 0x50000000), (32, 0x60000000), (40, 0x100000000), (40, 0x20F000000), (40, 0x00F000000),
   (40, 0x200000000), (40, 0x000000000)]

/-- Placed by `withFetchWord` in the state after reset, each row's word is what the very next step performs. -/
theorem test_withFetchWord_rows :
    (tableWords.all fun r =>
      let s := State.reset.withFetchWord r.1 r.2
      decide (performs s = decodeTableWord r.1 r.2)
        && nextSat (step s) fun t => decide (t.inputs = [])) = true := by
  decide +kernel

/-- It is placed on a port that admits it, and a packet where it is taken. -/
theorem test_withFetchWord_admitted :
    (nextSat (step (State.reset.withFetchWord 32 0x30403CA0)) fun t =>
        decide (t.outputs.resp = some .ok)) = true
      ∧ (nextSat (step (State.reset.withFetchWord 32 0x40000000)) fun t =>
        decide (t.outputs.resp = some .ok)) = true
      ∧ (nextSat (step (State.reset.withFetchWord 40 0x000000000)) fun t =>
        decide (t.pkt = 1#12)) = true := by
  decide +kernel

/-! ### Single steps, from 95_test_vectors.md V3 to V7 -/

/-- NOP on a reader port: answered OK, nothing else changes (V4). -/
theorem test_nop : (nextSat (step (offer State.reset .reader 0x00000000#32)) fun t =>
    decide (t = { atReader with
      outputs := { resp := some .ok, ret := .none, events := [] } })) = true := by
  decide +kernel

/-- V3: Elapsed 184 across the wrap of time. -/
theorem test_readFrame_cooled :
    (nextSat (step (offer (pendingSince 0xFFFFFF00) .control 0x10000000#32 0xFFFFFFB8)) fun t =>
      decide (t.outputs = { resp := some .ok, ret := .none, events := [.done 0x0160#16] })
        && decide (t.fsm = .idle) && t.resyncPending) = true := by
  decide +kernel

/-- V3: Elapsed 185. -/
theorem test_readFrame_started :
    (nextSat (step (offer (pendingSince 0xFFFFFF00) .control 0x10000000#32 0xFFFFFFB9)) fun t =>
      decide (cr0 t = 0x0001#16) && decide (t.outputs.events = [])) = true := by
  decide +kernel

/-- 40_control_ops.md R82, example: the request is timed. -/
theorem test_resyncReq :
    (nextSat (step (offer (pendingSince 100) .control 0x20000000#32 500)) fun t =>
      decide (cr3 t = 500#32) && t.resyncPending && decide (t.outputs.resp = some .ok)) = true := by
  decide +kernel

/-- V4: the largest product, 57600, is accepted. -/
theorem test_cfgWrite_largest :
    (nextSat (step (offer State.reset .control 0x301168A0#32 9)) fun t =>
      decide (cr2 t = 0x001168A0#32) && decide (cr3 t = 9#32)
        && decide (t.outputs.resp = some .ok)) = true := by
  decide +kernel

/-- V4: 57760 is ILLEGAL, also while READING. -/
theorem test_cfgWrite_beyond :
    (nextSat (step (offer (readingAt 1#3 0#12) .control 0x301169A0#32)) fun t =>
      decide (cr2 t = 0x00403CA0#32) && decide (t.outputs.resp = some .illegal)) = true := by
  decide +kernel

/-- V7: `wr_idx 1`, `frame_seq 9`. -/
theorem test_rdAcquire :
    (nextSat (step (offer { State.reset with wrIdx := 1#1, frameSeq := 9 } .reader 0x40000000#32))
      fun t => decide (t.outputs.ret = .acquired 0#1 9) && decide (cr4 t = 0x0101#16)) = true := by
  decide +kernel

/-- V7: at the counter's limit. -/
theorem test_rdAcquire_full :
    (nextSat (step (offer { State.reset with rdCnt := 255 } .reader 0x40000000#32)) fun t =>
      decide (t.outputs.resp = some .refused) && decide (t.rdCnt = 255)) = true := by
  decide +kernel

/-- V7: a release at 255. -/
theorem test_rdRelease :
    (nextSat (step (offer { State.reset with rdCnt := 255 } .reader 0x50000000#32)) fun t =>
      decide (t.outputs.resp = some .ok) && decide (t.rdCnt = 254)) = true := by
  decide +kernel

/-- V7 and P3 step 15: a release at zero after a completed frame. -/
theorem test_rdRelease_fault :
    (nextSat (step (offer { State.reset with complete := true, written := true } .reader 0x50000000#32))
      fun t => decide (t.outputs.resp = some .fault) && decide (cr0 t = 0x0086#16)) = true := by
  decide +kernel

/-- V4: buffer 1, offset 0x0123, which is linear address 57600 + 0x0123 (20_memory.md R49). -/
theorem test_fbRead :
    (nextSat (step (offer { State.reset with fb := [(57891, 0x5A#8)] } .reader 0x68000123#32)) fun t =>
      decide (t.outputs = { resp := some .ok, ret := .byte 0x5A#8, events := [] })) = true := by
  decide +kernel

/-- V4: offset 57600. -/
theorem test_fbRead_beyond :
    (nextSat (step (offer State.reset .reader 0x6000E100#32)) fun t =>
      decide (t.outputs = { resp := some .illegal, ret := .none, events := [] })) = true := by
  decide +kernel

/-- `3_0000_0000` with nothing written: NO_FRAME, no resync (V1, V5). -/
theorem test_pktHdrErr :
    (nextSat (step (deliver (readingAt 2#3 17#12) 0x300000000#34)) fun t =>
      decide (t.outputs.events = [.done 0x0510#16]) && decide (cr1 t = 0x2011#16)) = true := by
  decide +kernel

/-- P4, variant: a discard packet at slot (1, 0) with `written 1`. -/
theorem test_pktDiscard_first :
    (nextSat (step (deliver { readingAt 1#3 0#12 with written := true } 0x00F000000#34)) fun t =>
      decide (t.outputs.events = [.done 0x0204#16])) = true := by
  decide +kernel

/-- V6: a discard packet at (2, 17). -/
theorem test_pktDiscard_later :
    (nextSat (step (deliver (readingAt 2#3 17#12) 0x00F00BEEF#34)) fun t =>
      decide (cr1 t = 0x2011#16) && decide (cr0 t = 0x0001#16) && decide (t.outputs.events = [])) = true := by
  decide +kernel

/-- V6: the bus error comes before the first-slot test. -/
theorem test_pktDiscardPayerr :
    (nextSat (step (deliver (readingAt 1#3 0#12) 0x20F000000#34)) fun t =>
      decide (t.outputs.events = [.done 0x0510#16]) && decide (t.fb = [])) = true := by
  decide +kernel

/-- V6: both checks fail at (2, 20); the sequence check comes first, after the store at 12800 to 12959. -/
theorem test_pktVideo_mismatch :
    (nextSat (step (deliver (readingAt 2#3 20#12) 0x030150000#34 0x55#8 77)) fun t =>
      decide (t.outputs.events = [.done 0x034C#16]) && decide (cr3 t = 77#32)
        && decide (t.fb.read 12799 = none) && decide (t.fb.read 12800 = some 0x55#8)
        && decide (t.fb.read 12959 = some 0x55#8) && decide (t.fb.read 12960 = none)) = true := by
  decide +kernel

/-- V6: the last packet of a frame, `rd_cnt 0`, `frame_seq 7`. -/
theorem test_pktVideo_completes :
    (nextSat (step (deliver { readingAt 4#3 59#12 with frameSeq := 7 } 0x0003B0000#34 0x22#8)) fun t =>
      decide (t.outputs.events = [.frameAvail 8, .done 0x0006#16]) && decide (t.wrIdx = 1#1)
        && decide (cr1 t = 0x403B#16) && decide (t.fb.read 38399 = some 0x22#8)) = true := by
  decide +kernel

/-- V6: (1, 5). -/
theorem test_pktVideoPayerr :
    (nextSat (step (deliver (readingAt 1#3 5#12) 0x200050000#34)) fun t =>
      decide (t.outputs.events = [.done 0x0514#16]) && decide (cr1 t = 0x1005#16)
        && decide (t.fb.read 799 = none) && decide (t.fb.read 960 = none)) = true := by
  decide +kernel

/-- V8: RESET while READING with a frame stored and readers outstanding. -/
theorem test_reset :
    (nextSat (step { readingAt 2#3 3#12 with
        rdCnt := 2, arbFault := true, cfgLen := 240#8, fb := [(0, 1#8)], inputs := [.reset] })
      fun t => decide (cr0 t = 0#16) && decide (cr1 t = 0x1000#16) && decide (cr2 t = 0x00403CA0#32)
        && decide (cr4 t = 0x0200#16) && decide (t.fb.read 0 = none)
        && decide (t.outputs.events = [])) = true := by
  decide +kernel

/-! ### Other static parameters than the reference ones (00_scope.md R4) -/

/-- `0_F000_0000` is a discard packet here, and `0_0F00_0000` a video packet. -/
theorem test_params_discard :
    decode broadDiscard (.pd 0x0F0000000#34) = .instr (.pktDiscard 0xF000#16 0#16)
      ∧ decode broadDiscard (.pd 0x00F000000#34) = .instr (.pktVideo 0x0F00#16 0#16) := by
  decide

/-- Elapsed is modulo 2^TIME_W: from 250 to 257, which is sampled as 1, are 7 units; to 260 are 10. -/
theorem test_params_cooldown :
    let s : State := { State.resetWith narrow with resyncPending := true, resyncT0 := 250 }
    (nextSat (step (offer s .control 0x10000000#32 257)) fun t =>
        t.cooling && decide (t.sideband.now = 1)) = true
      ∧ (nextSat (step (offer s .control 0x10000000#32 260)) fun t => decide (t.fsm = .reading)) = true := by
  decide +kernel

/-- The third reader is the last of a count of 2 bits. -/
theorem test_params_rdAcquire_full :
    let s : State := State.resetWith narrow
    (nextSat (step (offer { s with rdCnt := 2 } .reader 0x40000000#32)) fun t =>
        decide (t.outputs.resp = some .ok) && decide (t.rdCnt = 3)) = true
      ∧ (nextSat (step (offer { s with rdCnt := 3 } .reader 0x40000000#32)) fun t =>
        decide (t.outputs.resp = some .refused) && decide (t.rdCnt = 3)) = true := by
  decide +kernel

/-- A sequence number of 4 bits wraps from 15 to 0. -/
theorem test_params_frameSeq :
    (nextSat (step (deliver { readingAt 4#3 59#12 with params := narrow, frameSeq := 15 }
        0x0003B0000#34)) fun t => decide (t.outputs.events = [.frameAvail 0, .done 0x0006#16])) = true := by
  decide +kernel

/-! ### Witnesses: for every obligation with hypotheses, concrete states and operands that meet them all, clause by clause

`EncodedOperationsDecodeBack` has `test_wf_accepts` and `DecodedEncodingsEncodeBack` the decoding tests above. -/

/-- A concrete step answers a next state with `p`. -/
theorem step_witness {r : Result} {p : State → Prop} [DecidablePred p]
    (h : (nextSat r fun t => decide (p t)) = true) : ∃ t, r = .next t ∧ p t := by
  obtain ⟨t, ht, hp⟩ := exists_of_nextSat h
  exact ⟨t, ht, of_decide_eq_true hp⟩

/-- An invocation at a slot of the reference geometry has the invariants: shown at the first and the last slot. -/
theorem readingAt_inv_first : (readingAt 1#3 0#12).Inv := by constructor <;> decide

theorem readingAt_inv_last : (readingAt 4#3 59#12).Inv := by constructor <;> decide

theorem readingAt_inv_tag : (readingAt 2#3 20#12).Inv := by constructor <;> decide

theorem pendingSince_inv : (pendingSince 0).Inv := by constructor <;> decide

/-- The invariants do not speak of the inputs. -/
theorem inv_inputs {s : State} (h : s.Inv) (l : List Input) : ({ s with inputs := l } : State).Inv :=
  ⟨h.1, h.2, h.3, h.4, h.5, h.6, h.7, h.8, h.9, h.10, h.11, h.12, h.13, h.14, h.15, h.16⟩

/-- The six clauses, at the IDs 0x0EFF, 0x0F00, 0x0FFF, 0x1F00 about the discard range. -/
theorem test_witness_DescriptorsClassifyByFirstMatch :
    let discards (d : Desc) (p : Params) : Prop := (d.extractLsb' 16 16 &&& p.discardMask) = p.discardMatch
    (0x1FFFFFFFF#34).extractLsb' 32 2 = 1#2 ∧ (0x300000000#34).extractLsb' 32 2 = 3#2
      ∧ (0x20F000000#34).extractLsb' 32 2 = 2#2 ∧ discards 0x20F000000#34 .reference
      ∧ (0x00FFF0000#34).extractLsb' 32 2 = 0#2 ∧ discards 0x00FFF0000#34 .reference
      ∧ (0x21F000000#34).extractLsb' 32 2 = 2#2 ∧ ¬ discards 0x21F000000#34 .reference
      ∧ (0x00EFF0000#34).extractLsb' 32 2 = 0#2 ∧ ¬ discards 0x00EFF0000#34 .reference
      ∧ discards 0x0F0000000#34 broadDiscard := by
  decide

/-- An offered word; each disjunct of `illegal` at the ends of its range; and a word that is none of them. -/
theorem test_witness_MalformedOrMisplacedWordsAreIllegal :
    (offer State.reset .reader 0x70000000#32).inputs = .op .reader 0x70000000#32 0 :: []
      ∧ 7 ≤ ((0x70000000#32).extractLsb' 28 4).toNat ∧ 7 ≤ ((0xF0000000#32).extractLsb' 28 4).toNat
      ∧ ((0x10000000#32).extractLsb' 28 4).toNat = 1 ∧ ((0x30403CA0#32).extractLsb' 28 4).toNat = 3
      ∧ ((0x40000000#32).extractLsb' 28 4).toNat = 4 ∧ ((0x68000123#32).extractLsb' 28 4).toNat = 6
      ∧ (0x00000001#32).extractLsb' 0 28 ≠ 0#28 ∧ (0x58000000#32).extractLsb' 0 28 ≠ 0#28
      ∧ (0x30803CA0#32).extractLsb' 23 5 ≠ 0#5 ∧ (0x38003CA0#32).extractLsb' 23 5 ≠ 0#5
      ∧ (0x60010000#32).extractLsb' 16 11 ≠ 0#11 ∧ (0x64000000#32).extractLsb' 16 11 ≠ 0#11
      ∧ (0x68000123#32).extractLsb' 16 11 = 0#11 ∧ (0x30403CA0#32).extractLsb' 23 5 = 0#5 := by
  decide

theorem test_witness_StepPerformsOfferedOperation :
    (offer State.reset .reader 0x68000123#32 5).inputs = .op .reader 0x68000123#32 5 :: []
      ∧ decode .reference (.opw 0x68000123#32) = .instr (.fbRead 1#1 0x0123#16) := by
  decide

theorem test_witness_StepPerformsDeliveredPacket :
    (deliver (readingAt 1#3 0#12) 0x000050000#34 1#8 5).inputs
        = .packet 0x000050000#34 (fill 1#8) 5 :: []
      ∧ decode .reference (.pd 0x000050000#34) = .instr (.pktVideo 0x0005#16 0x0000#16) :=
  ⟨rfl, by decide⟩

theorem test_witness_StepWithNothingOfferedChangesNothing : State.reset.inputs = [] := rfl

/-- Also for `ResetDrawsTheFrameStoreAnew`. -/
theorem test_witness_ResetStepRestoresEveryElement :
    ({ readingAt 2#3 3#12 with inputs := [.reset] } : State).inputs = .reset :: [] := rfl

theorem test_witness_NopChangesNothing :
    (offer State.reset .reader 0x00000001#32).inputs = .op .reader 0x00000001#32 0 :: []
      ∧ (0x00000001#32).extractLsb' 28 4 = 0#4 ∧ (0x00000001#32).extractLsb' 0 28 ≠ 0#28
      ∧ (0x0FFFFFFF#32).extractLsb' 28 4 = 0#4 ∧ (0x0FFFFFFF#32).extractLsb' 0 28 ≠ 0#28 := by
  decide

/-- READING; a request 184 ms old; one 185 ms old; none. -/
theorem test_witness_ReadFrameFollowsItsRule :
    (readingAt 1#3 0#12).sideband.port = .control ∧ (readingAt 1#3 0#12).fsm = .reading
      ∧ (pendingSince 1000).sideband.port = .control ∧ (pendingSince 1000).fsm = .idle
      ∧ (pendingSince 1000).resyncPending = true
      ∧ ((1184 : Int) - 1000) % 2 ^ 32 < Params.reference.cooldown
      ∧ ¬ ((1185 : Int) - 1000) % 2 ^ 32 < Params.reference.cooldown
      ∧ State.reset.fsm = .idle ∧ State.reset.resyncPending ≠ true := by
  decide

theorem test_witness_ResyncReqFollowsItsRule :
    (readingAt 1#3 0#12).sideband.port = .control ∧ (readingAt 1#3 0#12).fsm = .reading
      ∧ State.reset.sideband.port = .control ∧ State.reset.fsm = .idle := by
  decide

/-- Legal at the largest P and the largest product; illegal by length, by P at both ends, by S, by product. -/
theorem test_witness_CfgWriteFollowsItsRule :
    State.reset.sideband.port = .control ∧ State.reset.fsm = .idle
      ∧ (readingAt 1#3 0#12).sideband.port = .control ∧ (readingAt 1#3 0#12).fsm = .reading
      ∧ legalGeometry .reference 1#3 360#12 160#8 = true ∧ legalGeometry .reference 4#3 60#12 240#8 = true
      ∧ legalGeometry .reference 1#3 1#12 160#8 = true ∧ legalGeometry .reference 7#3 51#12 160#8 = true
      ∧ legalGeometry .reference 4#3 60#12 200#8 = false ∧ legalGeometry .reference 4#3 0#12 160#8 = false
      ∧ legalGeometry .reference 1#3 3841#12 160#8 = false ∧ legalGeometry .reference 0#3 60#12 160#8 = false
      ∧ legalGeometry .reference 1#3 361#12 160#8 = false := by
  decide

theorem test_witness_ControlOperationsFrame :
    (∃ t, exec .nop State.reset = .next t ∧ t.fsm = .idle)
      ∧ (∃ t, exec .readFrame State.reset = .next t ∧ t.fsm = .reading)
      ∧ (∃ t, exec .resyncReq State.reset = .next t ∧ t.resyncPending = true)
      ∧ ∃ t, exec (.cfgWrite 2#3 3#12 160#8) State.reset = .next t ∧ t.cfgPps = 3#12 :=
  ⟨step_witness (by decide +kernel), step_witness (by decide +kernel),
    step_witness (by decide +kernel), step_witness (by decide +kernel)⟩

/-- 184, 185 and, aliased, 2^32 ms after a request at 1000. -/
theorem test_witness_CooldownMeasuresRealTime :
    (pendingSince 1000).sideband.port = .control ∧ (pendingSince 1000).fsm = .idle
      ∧ (pendingSince 1000).resyncPending = true
      ∧ (pendingSince 1000).resyncT0 = 1000 % 2 ^ 32
      ∧ (1184 - 1000) % 2 ^ 32 < Params.reference.cooldown ∧ Params.reference.cooldown ≤ (1185 - 1000) % 2 ^ 32
      ∧ 1185 - 1000 < 2 ^ 32 ∧ (1000 + 2 ^ 32 - 1000) % 2 ^ 32 < Params.reference.cooldown := by
  decide

theorem test_witness_ForeignOperationsAreIllegal :
    atReader.sideband.port = .reader ∧ State.reset.sideband.port = .control := by decide

theorem test_witness_PacketsAreNotTakenWhileIdle :
    State.reset.fsm = .idle ∧ mayIssue .control (.pktVideo 0#16 0#16) = false
      ∧ mayIssue .reader (.pktVideo 0#16 0#16) = false := by
  decide

theorem test_witness_HeaderErrorEndsInvocation : (readingAt 4#3 59#12).fsm = .reading := rfl

/-- The first slot, and its neighbours in `pkt` and in `seg`. -/
theorem test_witness_DiscardFollowsItsRule :
    (readingAt 1#3 0#12).fsm = .reading ∧ (readingAt 1#3 0#12).seg = 1#3
      ∧ (readingAt 1#3 0#12).pkt = 0#12
      ∧ ¬ ((readingAt 1#3 1#12).seg = 1#3 ∧ (readingAt 1#3 1#12).pkt = 0#12)
      ∧ ¬ ((readingAt 2#3 0#12).seg = 1#3 ∧ (readingAt 2#3 0#12).pkt = 0#12) := by
  decide

theorem test_witness_DiscardPayloadErrorEndsInvocation :
    (readingAt 1#3 0#12).fsm = .reading := rfl

theorem test_witness_VideoPayloadErrorEndsInvocation :
    (readingAt 1#3 0#12).fsm = .reading ∧ slotExists (readingAt 1#3 0#12) = true
      ∧ slotExists (readingAt 4#3 59#12) = true := by
  decide

theorem test_witness_VideoStoresPayloadInExpectedSlot :
    (readingAt 4#3 59#12).fsm = .reading ∧ slotExists (readingAt 4#3 59#12) = true
      ∧ 254 < Config.maxLen ∧ 159 < (readingAt 4#3 59#12).cfgLen.toNat := by
  decide

/-- At (2, 20): a wrong sequence number; the tags 0 and 3. -/
theorem test_witness_VideoDesynchronizationFollowsItsRule :
    (readingAt 2#3 20#12).fsm = .reading ∧ slotExists (readingAt 2#3 20#12) = true
      ∧ seqOf .reference 0x2015#16 ≠ 20 ∧ seqOf .reference 0x0014#16 = 20 ∧ (20#12).toNat = Params.reference.tagIdx
      ∧ tagOf .reference 0x0014#16 = 0 ∧ seqOf .reference 0x3014#16 = 20 ∧ tagOf .reference 0x3014#16 ≠ 0
      ∧ tagOf .reference 0x3014#16 ≠ 2 := by
  decide

/-- The tag at (2, 20); the last packet of a segment; the last of the frame without and with a reader. -/
theorem test_witness_ValidVideoAdvancesOrCompletes :
    slotExists (readingAt 2#3 20#12) = true ∧ seqOf .reference 0x2014#16 = 20 ∧ tagOf .reference 0x2014#16 = 2
      ∧ slotExists (readingAt 1#3 58#12) = true ∧ seqOf .reference 0x003A#16 = 58
      ∧ (58#12).toNat ≠ Params.reference.tagIdx ∧ (58#12).toNat + 1 < (readingAt 1#3 58#12).cfgPps.toNat
      ∧ slotExists (readingAt 3#3 59#12) = true ∧ seqOf .reference 0x003B#16 = 59
      ∧ (59#12).toNat + 1 = (readingAt 3#3 59#12).cfgPps.toNat
      ∧ (3#3).toNat < (readingAt 3#3 59#12).cfgSpf.toNat
      ∧ slotExists (readingAt 4#3 59#12) = true
      ∧ (readingAt 4#3 59#12).seg = (readingAt 4#3 59#12).cfgSpf
      ∧ (readingAt 4#3 59#12).rdCnt = 0
      ∧ slotExists { readingAt 4#3 59#12 with rdCnt := 1 } = true := by
  decide

/-- All five classes; PKT.VIDEO mid-frame (the clause that it leaves the arbiter alone) and completing. -/
theorem test_witness_PacketOperationsFrame :
    (∃ t, exec (.pktHdrErr 0#1 0#16 0#16) (readingAt 1#3 0#12) = .next t ∧ t.fsm = .idle)
      ∧ (∃ t, exec (.pktDiscard 0x0F00#16 0#16) (readingAt 1#3 1#12) = .next t ∧ t.fsm = .reading)
      ∧ (∃ t, exec (.pktDiscardPayerr 0x0F00#16 0#16) (readingAt 1#3 1#12) = .next t ∧ t.fsm = .idle)
      ∧ (∃ t, exec (.pktVideo 0#16 0#16) (readingAt 1#3 0#12) = .next t ∧ t.pkt = 1#12)
      ∧ (∃ t, exec (.pktVideo 0x003B#16 0#16) (readingAt 4#3 59#12) = .next t ∧ t.wrIdx = 1#1)
      ∧ ∃ t, exec (.pktVideoPayerr 0#16 0#16) (readingAt 1#3 0#12) = .next t ∧ t.fsm = .idle :=
  ⟨step_witness (by decide +kernel), step_witness (by decide +kernel),
    step_witness (by decide +kernel), step_witness (by decide +kernel),
    step_witness (by decide +kernel), step_witness (by decide +kernel)⟩

theorem test_witness_StoringWithoutASlotFaults :
    (readingAt 0#3 0#12).fsm = .reading ∧ slotExists (readingAt 0#3 0#12) = false
      ∧ slotExists (readingAt 1#3 60#12) = false := by
  decide

theorem test_witness_AcquireFollowsItsRule :
    atReader.sideband.port = .reader ∧ 254 ≠ 2 ^ atReader.params.rcW - 1
      ∧ 255 = 2 ^ atReader.params.rcW - 1 := by
  decide

theorem test_witness_ReleaseFollowsItsRule :
    atReader.sideband.port = .reader ∧ atReader.rdCnt = 0
      ∧ ({ atReader with rdCnt := 1 } : State).rdCnt ≠ 0 := by
  decide

/-- The last legal offset and the first illegal one; a byte that is stored and one that is not. -/
theorem test_witness_FbReadFollowsItsRule :
    atReader.sideband.port = .reader ∧ Params.reference.frameMax ≤ (57600#16).toNat
      ∧ (57599#16).toNat < Params.reference.frameMax
      ∧ Memory.read [(115199, 7#8)] ((1#1).toNat * Params.reference.frameMax + (57599#16).toNat) = some 7#8
      ∧ atReader.fb.read ((1#1).toNat * Params.reference.frameMax + (57599#16).toNat) = none := by
  decide

theorem test_witness_ReaderOperationsFrame :
    (∃ t, exec .rdAcquire atReader = .next t ∧ t.rdCnt = 1)
      ∧ (∃ t, exec .rdRelease atReader = .next t ∧ t.arbFault = true)
      ∧ ∃ t, exec (.fbRead 1#1 57599#16) { atReader with fb := [(115199, 7#8)] } = .next t
          ∧ t.outputs.ret = .byte 7#8 :=
  ⟨step_witness (by decide +kernel), step_witness (by decide +kernel),
    step_witness (by decide +kernel)⟩

theorem test_witness_ResetStateIsSafe : legalParams narrow = true ∧ legalParams broadDiscard = true := by
  decide

theorem test_witness_StepsKeepInvariants :
    (deliver (readingAt 4#3 59#12) 0x0003B0000#34).Inv
      ∧ ∃ t, step (deliver (readingAt 4#3 59#12) 0x0003B0000#34) = .next t ∧ t.complete = true :=
  ⟨inv_inputs readingAt_inv_last _, step_witness (by decide +kernel)⟩

/-- A packet and RESET. -/
theorem test_witness_ParametersNeverChange :
    (∃ t, step (deliver (readingAt 4#3 59#12) 0x0003B0000#34) = .next t ∧ t.complete = true)
      ∧ ∃ t, step { readingAt 1#3 0#12 with params := narrow, inputs := [.reset] } = .next t
        ∧ t.fsm = .idle :=
  ⟨step_witness (by decide +kernel), step_witness (by decide +kernel)⟩

theorem test_witness_InvariantStatesAlwaysStep : (deliver (readingAt 2#3 20#12) 0#34).Inv :=
  inv_inputs readingAt_inv_tag _

/-- A step that publishes and one that does not. -/
theorem test_witness_IndexAndSequenceMoveTogether :
    (∃ t, step (deliver (readingAt 4#3 59#12) 0x0003B0000#34) = .next t
      ∧ resetIsNext (deliver (readingAt 4#3 59#12) 0x0003B0000#34) = false ∧ t.frameSeq = 1)
      ∧ ∃ t, step (offer State.reset .reader 0x40000000#32) = .next t
        ∧ resetIsNext (offer State.reset .reader 0x40000000#32) = false ∧ t.rdCnt = 1 :=
  ⟨step_witness (by decide +kernel), step_witness (by decide +kernel)⟩

/-- A step that stores, at the first slot of `fb[1]`; the offsets 0 and 57599. -/
theorem test_witness_ReadBufferIsNeverWritten :
    (∃ t, step (deliver { readingAt 1#3 0#12 with wrIdx := 1#1 } 0#34 9#8) = .next t
      ∧ resetIsNext (deliver { readingAt 1#3 0#12 with wrIdx := 1#1 } 0#34 9#8) = false
      ∧ t.fb.read 57600 = some 9#8)
      ∧ 0 < Params.reference.frameMax ∧ 57599 < Params.reference.frameMax :=
  ⟨step_witness (by decide +kernel), by decide, by decide⟩

/-- A packet, and RESET. -/
theorem test_witness_OnlyPacketsAndResetLeaveReading :
    (∃ t, step (deliver (readingAt 1#3 0#12) 0x100000000#34) = .next t
      ∧ (readingAt 1#3 0#12).fsm = .reading ∧ t.fsm = .idle)
      ∧ ∃ t, step { readingAt 1#3 0#12 with inputs := [.reset] } = .next t
        ∧ (readingAt 1#3 0#12).fsm = .reading ∧ t.fsm = .idle :=
  ⟨step_witness (by decide +kernel), step_witness (by decide +kernel)⟩

theorem test_witness_OnlyReadFrameEntersReading :
    ∃ t, step (offer State.reset .control 0x10000000#32) = .next t
      ∧ (offer State.reset .control 0x10000000#32).fsm = .idle ∧ t.fsm = .reading :=
  step_witness (by decide +kernel)

theorem test_witness_GeometryChangesOnlyInIdle :
    ∃ t, step (offer State.reset .control 0x302003A0#32) = .next t
      ∧ resetIsNext (offer State.reset .control 0x302003A0#32) = false
      ∧ ¬ SameGeometry (offer State.reset .control 0x302003A0#32) t := by
  obtain ⟨t, h, hp⟩ := step_witness (r := step (offer State.reset .control 0x302003A0#32))
    (p := fun t => t.cfgPps ≠ State.reset.cfgPps) (by decide +kernel)
  exact ⟨t, h, by decide, fun hg => hp hg.2.1⟩

/-- RESET, and a READ_FRAME exactly 185 ms after the request. -/
theorem test_witness_ResyncFlagClearsOnlyAfterTheWindow :
    (∃ t, step { pendingSince 1000 with inputs := [.reset] } = .next t
      ∧ (pendingSince 1000).resyncPending = true ∧ t.resyncPending = false)
      ∧ ∃ t, step (offer (pendingSince 1000) .control 0x10000000#32 1185) = .next t
        ∧ (pendingSince 1000).resyncPending = true ∧ t.resyncPending = false :=
  ⟨step_witness (by decide +kernel), step_witness (by decide +kernel)⟩

/-- A first request; one while another is pending, at a later time and at the same time; a CFG_WRITE; a mismatch. -/
theorem test_witness_ResyncRequestsRecordTheirTime :
    (∃ t, step (offer State.reset .control 0x20000000#32 0) = .next t
      ∧ resetIsNext (offer State.reset .control 0x20000000#32 0) = false
      ∧ State.reset.resyncPending = false ∧ t.resyncPending = true)
      ∧ (∃ t, step (offer (pendingSince 1000) .control 0x20000000#32 1100) = .next t
        ∧ resetIsNext (offer (pendingSince 1000) .control 0x20000000#32 1100) = false
        ∧ t.resyncT0 ≠ (pendingSince 1000).resyncT0)
      ∧ (∃ t, step (offer (pendingSince 1000) .control 0x20000000#32 1000) = .next t
        ∧ t.outputs.resp = some .ok
        ∧ performs (offer (pendingSince 1000) .control 0x20000000#32 1000) = some .resyncReq)
      ∧ (∃ t, step (offer (pendingSince 1000) .control 0x302003A0#32 1000) = .next t
        ∧ t.outputs.resp = some .ok
        ∧ performs (offer (pendingSince 1000) .control 0x302003A0#32 1000)
            = some (.cfgWrite 2#3 3#12 160#8))
      ∧ ∃ t, step (deliver (readingAt 2#3 20#12) 0x030150000#34) = .next t
        ∧ performs (deliver (readingAt 2#3 20#12) 0x030150000#34) = some (.pktVideo 0x3015#16 0#16)
        ∧ (readingAt 2#3 20#12).fsm = .reading ∧ t.fsm = .idle ∧ t.complete = false :=
  ⟨step_witness (by decide +kernel), step_witness (by decide +kernel),
    step_witness (by decide +kernel), step_witness (by decide +kernel),
    step_witness (by decide +kernel)⟩

theorem test_witness_SelectIsLowThroughoutCooldown :
    (pendingSince 0).Inv ∧ (pendingSince 0).resyncPending = true :=
  ⟨pendingSince_inv, rfl⟩

/-- The bit already set, and set by this step. -/
theorem test_witness_ArbFaultIsSticky :
    (∃ t, step (offer { State.reset with arbFault := true } .reader 0x40000000#32) = .next t
      ∧ resetIsNext (offer { State.reset with arbFault := true } .reader 0x40000000#32) = false
      ∧ t.arbFault = true)
      ∧ ∃ t, step (offer State.reset .reader 0x50000000#32) = .next t
        ∧ resetIsNext (offer State.reset .reader 0x50000000#32) = false
        ∧ State.reset.arbFault = false ∧ t.arbFault = true :=
  ⟨step_witness (by decide +kernel), step_witness (by decide +kernel)⟩

/-- The sequence number wraps: 2^32 - 1 to 0 (V7). -/
theorem test_witness_FrameAvailFiresWithEachIncrement :
    1 ≤ State.reset.params.seqW
      ∧ ∃ t, step (deliver { readingAt 4#3 59#12 with frameSeq := 0xFFFFFFFF } 0x0003B0000#34) = .next t
      ∧ resetIsNext (deliver { readingAt 4#3 59#12 with frameSeq := 0xFFFFFFFF } 0x0003B0000#34)
          = false
      ∧ Event.frameAvail 0 ∈ t.outputs.events ∧ t.frameSeq ≠ 0xFFFFFFFF :=
  ⟨by decide, step_witness (by decide +kernel)⟩

/-- An invocation that ends, and a READ_FRAME answered by the cooldown. -/
theorem test_witness_DoneFiresWhenAnInvocationEnds :
    (∃ t, step (deliver (readingAt 1#3 0#12) 0x00F000000#34) = .next t
      ∧ resetIsNext (deliver (readingAt 1#3 0#12) 0x00F000000#34) = false
      ∧ Event.done 0x0200#16 ∈ t.outputs.events)
      ∧ ∃ t, step (offer (pendingSince 1000) .control 0x10000000#32 1184) = .next t
        ∧ resetIsNext (offer (pendingSince 1000) .control 0x10000000#32 1184) = false
        ∧ performs (offer (pendingSince 1000) .control 0x10000000#32 1184) = some .readFrame
        ∧ t.outputs.resp = some .ok ∧ t.fsm = .idle :=
  ⟨step_witness (by decide +kernel), step_witness (by decide +kernel)⟩

/-- The four endings: completed, first discard, desynchronization, bus error. -/
theorem test_witness_EndingsMatchTheConditionTable :
    (deliver (readingAt 4#3 59#12) 0x0003B0000#34).Inv
      ∧ (∃ t, step (deliver (readingAt 4#3 59#12) 0x0003B0000#34) = .next t
        ∧ t.fsm = .idle ∧ t.cause = .none)
      ∧ (deliver (readingAt 1#3 0#12) 0x00F000000#34).Inv
      ∧ (∃ t, step (deliver (readingAt 1#3 0#12) 0x00F000000#34) = .next t
        ∧ t.fsm = .idle ∧ t.cause = .firstDiscard)
      ∧ (deliver (readingAt 2#3 20#12) 0x030140000#34).Inv
      ∧ (∃ t, step (deliver (readingAt 2#3 20#12) 0x030140000#34) = .next t
        ∧ t.fsm = .idle ∧ t.cause = .tagMismatch)
      ∧ (deliver (readingAt 1#3 0#12) 0x100000000#34).Inv
      ∧ ∃ t, step (deliver (readingAt 1#3 0#12) 0x100000000#34) = .next t
        ∧ t.fsm = .idle ∧ t.cause = .busError :=
  ⟨inv_inputs readingAt_inv_last _, step_witness (by decide +kernel),
    inv_inputs readingAt_inv_first _, step_witness (by decide +kernel),
    inv_inputs readingAt_inv_tag _, step_witness (by decide +kernel),
    inv_inputs readingAt_inv_first _, step_witness (by decide +kernel)⟩

theorem test_witness_ReaderCountNeverSteersTheProducer :
    ∃ t, exec (.pktVideo 0x003B#16 0#16) (readingAt 4#3 59#12) = .next t ∧ t.frameSeq = 1 :=
  step_witness (by decide +kernel)

/-- The last slot and the last offset of the reference geometry. -/
theorem test_witness_SlotsTileTheFrame :
    legalGeometry .reference 4#3 60#12 160#8 = true ∧ 1 ≤ (4#3).toNat ∧ (4#3).toNat ≤ (4#3).toNat
      ∧ (59#12).toNat < (60#12).toNat ∧ 38399 < frameBytes 4#3 60#12 160#8 := by
  decide

/-- An acquisition, a release, a release too many. -/
theorem test_witness_ReaderCountIsGrantsLessReleases :
    let s : State := { State.reset with
      inputs := [.op .reader 0x40000000#32 0, .op .reader 0x50000000#32 0,
        .op .reader 0x50000000#32 0] }
    (∃ t, runSteps 3 s = .next t ∧ t.arbFault = true) ∧ resets 3 s = 0 ∧ grants 3 s = 1
      ∧ releases 3 s = 1 :=
  ⟨step_witness (by decide +kernel), by decide +kernel, by decide +kernel, by decide +kernel⟩

/-- One other consumer holds an acquisition; an RD_ACQUIRE, that consumer's RD_RELEASE and a completing packet are offered. -/
def heldRun : State :=
  { readingAt 4#3 59#12 with
    rdCnt := 1
    inputs := [.op .reader 0x40000000#32 0, .op .reader 0x50000000#32 0,
      .packet 0x0003B0000#34 (fill 1#8) 0] }

theorem test_witness_HeldBufferIsNeverTorn :
    ∃ a t, step heldRun = .next a ∧ granted heldRun a = true ∧ runSteps 2 a = .next t
      ∧ resets 2 a = 0 ∧ (∀ j, j ≤ 2 → releases j a ≤ heldRun.rdCnt + grants j a)
      ∧ t.dropped = true := by
  obtain ⟨a, ha, h⟩ := exists_of_nextSat (r := step heldRun)
    (p := fun a => granted heldRun a && decide (resets 2 a = 0)
      && (List.range 3).all (fun j => decide (releases j a ≤ heldRun.rdCnt + grants j a))
      && nextSat (runSteps 2 a) fun t => t.dropped) (by decide +kernel)
  simp only [Bool.and_eq_true, decide_eq_true_eq, List.all_eq_true, List.mem_range] at h
  obtain ⟨t, ht, hd⟩ := exists_of_nextSat h.2
  exact ⟨a, t, ha, h.1.1.1, ht, h.1.1.2, fun j hj => h.1.2 j (Nat.lt_succ_of_le hj), hd⟩

/-- A frame of two segments of 21 packets, with the tag at packet 20 of each (P4). -/
theorem test_witness_ValidStreamFillsTheFrame :
    let id : Nat → Half := fun k => vidId .reference (BitVec.ofNat 3 (k / 21 + 1)) (BitVec.ofNat 12 (k % 21))
    let s : State := { readingAt 1#3 0#12 with
      cfgPps := 21#12, cfgSpf := 2#3
      inputs := (List.range 42).map (fun k => .packet (0#2 ++ id k ++ 0#16) (fill 0x41#8) 0) ++ [] }
    legalGeometry .reference s.cfgSpf s.cfgPps s.cfgLen = true ∧ s.fsm = .reading ∧ s.seg = 1#3 ∧ s.pkt = 0#12
      ∧ (∀ k, k < 42 → isDiscard .reference (id k) = false ∧ seqOf .reference (id k) = k % 21
        ∧ (k % 21 = Params.reference.tagIdx → tagOf .reference (id k) = k / 21 + 1))
      ∧ s.inputs = (List.range (s.cfgSpf.toNat * s.cfgPps.toNat)).map
          (fun k => .packet (0#2 ++ id k ++ 0#16) (fill 0x41#8) 0) ++ [] :=
  ⟨by decide +kernel, rfl, rfl, rfl, by decide +kernel, rfl⟩

end Sys2Proof.Tests
end

/-! ## The scope: static parameters and what a step performs (00_scope.md R2, R4, R8) -/

namespace Sys2Proof.Machine

/-! ### The reference parameters -/

/-- `SEQ(id)` of the reference hardware is `id[11:0]` (00_scope.md R4). -/
theorem seqOf_reference (id : Half) : seqOf .reference id = (id.extractLsb' 0 12).toNat := rfl

/-- `TAG(id)` of the reference hardware is `id[14:12]` (00_scope.md R4). -/
theorem tagOf_reference (id : Half) : tagOf .reference id = (id.extractLsb' 12 3).toNat := rfl

theorem legalParams_reference : legalParams .reference = true := by decide

/-- Settles O1: each row of R4's table by computation, the two slices by their lemmas. -/
theorem referenceParametersAreTheSpecs : Obligations.ReferenceParametersAreTheSpecs :=
  ⟨rfl, legalParams_reference, rfl, rfl, rfl, rfl, rfl, rfl, rfl, rfl, rfl, rfl, rfl, rfl, rfl, rfl, rfl,
    fun id => ⟨seqOf_reference id, tagOf_reference id⟩⟩

/-! ### The step on an input that decodes -/

/-- A word that decodes is taken as its operation, with the port and the time sampled. -/
theorem takeOp_of_decodes {w : Word} {i : Instr} (h : decodeOpw w = .instr i) (port : OpPort) (now : Nat) (s : State) :
    takeOp port w now s
      = .instr i { s with sideband := { s.sideband with port := port, now := sampled s.params now } } := by
  simp [takeOp, h]

/-- Settles O8: the input is taken (`fetch_op`), the word decodes (`takeOp_of_decodes`), and the step is `exec`. -/
theorem stepPerformsOfferedOperation : Obligations.StepPerformsOfferedOperation := by
  intro s port w now rest i hin hdec
  exact step_of_instr ((fetch_op hin).trans (takeOp_of_decodes hdec port now _))

/-- Settles O9: every descriptor decodes, so the packet is taken as its class (`fetch_packet`) and the step is `exec`. -/
theorem stepPerformsDeliveredPacket : Obligations.StepPerformsDeliveredPacket := by
  intro s d payload now rest i hin hdec
  have hclass : decodePd s.params d = i := Decoded.instr.inj hdec
  subst hclass
  exact step_of_instr (fetch_packet hin)

/-! ### No operation touches the parameters, the inputs, the sidebands or the drawing -/

/-- Ending an invocation leaves the environment's fields alone, whatever the cause. -/
theorem raise_sameInputs (c : Cause) (s : State) : SameInputs s (raise c s) := by
  cases c <;> exact ⟨rfl, rfl, rfl, rfl⟩

theorem Validation.sameInputs {id : Half} {s t : State} (h : Validation id s t) : SameInputs s t := by
  cases h with
  | seqMismatch => exact raise_sameInputs _ _
  | tagMismatch => exact raise_sameInputs _ _
  | restart | nextPacket | nextSegment | published | dropped => exact ⟨rfl, rfl, rfl, rfl⟩

/-- The state before enters an operation's effect through an answer, a store or the clearing of the record, and none of these
writes one of the four fields; what is left is `raise`, the validation, or an update of other fields. -/
theorem Effect.sameInputs {i : Instr} {s t : State} (h : Effect i s t) : SameInputs s t := by
  cases h with
  | cooled | busError | firstDiscard | payErr => exact raise_sameInputs _ _
  | stored id crc hread hslot hv => exact hv.sameInputs
  | answered | ignored | started | requested | configured | acquired | released | releaseFault =>
    exact ⟨rfl, rfl, rfl, rfl⟩

/-- A step has the parameters of the state before: an operation keeps them, and so do the three steps that perform none,
RESET among them. -/
theorem step_params {s t : State} (h : step s = .next t) : t.params = s.params := by
  rcases step_cases h with ⟨i, s', hfetch, heffect⟩ | hsettled
  · obtain ⟨rest, sb, rfl⟩ := fetch_instr_frame hfetch
    obtain ⟨hparams, -⟩ := heffect.sameInputs
    exact hparams
  · rcases fetch_settled_cases hsettled with ⟨-, rfl⟩ | ⟨rest, sb, p, w, now, -, rfl⟩ | ⟨rest, -, rfl⟩
    · rfl
    · rfl
    · rfl

/-- Settles O37, by the cases of what a step can do. -/
theorem parametersNeverChange : Obligations.ParametersNeverChange :=
  fun _ _ h => step_params h

end Sys2Proof.Machine

/-! ## The invariants: at reset and across every step (10_state.md R33) -/

namespace Sys2Proof.Machine

/-! ### Updates that the invariants allow -/

/-- Of the inputs, the sidebands and the outputs the invariants speak of the sampled time alone. -/
theorem State.Inv.resample {s : State} (h : s.Inv) (rest : List Input) {sb : Sideband} (out : Outputs)
    (hnow : sb.now < 2 ^ s.params.timeW) :
    ({ s with inputs := rest, sideband := sb, outputs := out } : State).Inv :=
  { h with nowFits := hnow }

theorem State.Inv.answer {s : State} (h : s.Inv) (r : Resp) (d : ReturnData := .none) : (s.answer r d).Inv :=
  h.resample s.inputs _ h.nowFits

theorem State.Inv.quiet {s : State} (h : s.Inv) : s.quiet.Inv := h.resample s.inputs _ h.nowFits

/-- RESET restores the invariants from any state with legal parameters and a sampled time of TIME_W bits. -/
theorem resetStep_inv {s : State} (hparams : legalParams s.params = true)
    (hnow : s.sideband.now < 2 ^ s.params.timeW) : (resetStep s).Inv where
  completeIsClean := nofun
  coolingIsRecorded := nofun
  readErrIsDesync := by simp [resetStep, State.resetWith]
  busErrIsCause := by simp [resetStep, State.resetWith]
  droppedIsComplete := nofun
  readingHasSlot := nofun
  readingIsClean := nofun
  geometryIsLegal := (legalParams_facts hparams).2.2.2.2
  readingHasNoResync := nofun
  memoryIsCanonical := rfl
  memoryIsInBounds := rfl
  paramsAreLegal := hparams
  requestTimeFits := Nat.two_pow_pos _
  nowFits := hnow
  readerCountFits := Nat.two_pow_pos _
  sequenceFits := Nat.two_pow_pos _

/-- A resync may be requested in IDLE. -/
theorem State.Inv.requestResync {s : State} (h : s.Inv) (hidle : s.fsm = .idle) : (requestResync s).Inv :=
  { h with
    coolingIsRecorded := fun hc => by
      obtain ⟨hwritten, hcomplete, hcause, -⟩ := h.coolingIsRecorded hc
      exact ⟨hwritten, hcomplete, hcause, rfl⟩
    readingHasNoResync := fun hread => absurd (hidle.symm.trans hread) nofun
    requestTimeFits := h.nowFits }

/-- A legal geometry may be written in IDLE. -/
theorem State.Inv.configure {s : State} (h : s.Inv) (hidle : s.fsm = .idle) {spf : SegIdx} {pps : PktIdx} {len : PayLen}
    (hlegal : legalGeometry s.params spf pps len = true) :
    ({ s with cfgLen := len, cfgPps := pps, cfgSpf := spf } : State).Inv :=
  { h with
    readingHasSlot := fun hread => absurd (hidle.symm.trans hread) nofun
    geometryIsLegal := hlegal }

/-- An invocation starts with a cleared record, at the first slot of a legal geometry. -/
theorem State.Inv.startInvocation {s : State} (h : s.Inv) : (startInvocation (clearRecord s)).Inv :=
  { h with
    completeIsClean := nofun
    coolingIsRecorded := nofun
    readErrIsDesync := by simp
    busErrIsCause := by simp
    droppedIsComplete := nofun
    readingHasSlot := fun _ => by
      obtain ⟨-, hpps, -, hspf, -⟩ := (legalGeometry_iff _ _ _ _).1 h.geometryIsLegal
      exact ⟨Nat.le_refl 1, hspf, hpps⟩
    readingIsClean := fun _ => ⟨rfl, rfl, rfl, rfl, rfl⟩
    readingHasNoResync := fun _ => rfl }

/-- The cooldown answers in IDLE, with a cleared record and the request still pending. -/
theorem State.Inv.raise_cooling {s : State} (h : s.Inv) (hpending : s.resyncPending = true) :
    (raise .cooling (clearRecord s)).Inv :=
  { h with
    completeIsClean := nofun
    coolingIsRecorded := fun _ => ⟨rfl, rfl, rfl, hpending⟩
    readErrIsDesync := by simp [raise]
    busErrIsCause := by simp [raise]
    droppedIsComplete := nofun
    readingHasSlot := nofun
    readingIsClean := nofun
    readingHasNoResync := nofun }

/-- Any other condition ends an invocation whose record is clean, so the record it leaves is that condition's alone. -/
theorem State.Inv.raise_of_reading {s : State} (h : s.Inv) (hread : s.fsm = .reading) {c : Cause} (hc : c ≠ .cooling) :
    (raise c s).Inv := by
  obtain ⟨-, hcomplete, hcooling, hreadErr, hbusErr⟩ := h.readingIsClean hread
  cases c with
  | cooling => exact absurd rfl hc
  | none | firstDiscard | busError =>
    exact { h with
      completeIsClean := fun hf => by simp [raise, hcomplete] at hf
      coolingIsRecorded := fun hf => by simp [raise, hcooling] at hf
      readErrIsDesync := by simp [raise, hreadErr]
      busErrIsCause := by simp [raise, hbusErr]
      readingHasSlot := nofun
      readingIsClean := nofun
      readingHasNoResync := nofun }
  | seqMismatch | tagMismatch =>
    exact { h with
      completeIsClean := fun hf => by simp [raise, invalidate, hcomplete] at hf
      coolingIsRecorded := fun hf => by simp [raise, invalidate, hcooling] at hf
      readErrIsDesync := by simp [raise, invalidate]
      busErrIsCause := by simp [raise, invalidate, hbusErr]
      readingHasSlot := nofun
      readingIsClean := nofun
      readingHasNoResync := nofun
      requestTimeFits := h.nowFits }

/-- `cfg_len` bytes may be stored in the expected slot: it lies inside one buffer. -/
theorem State.Inv.storeSlot {s : State} (h : s.Inv) (hread : s.fsm = .reading) (hslot : slotExists s = true)
    {bs : List Byte} (hlen : bs.length = s.cfgLen.toNat) : (storeSlot bs s).Inv := by
  obtain ⟨-, hcomplete, hcooling, -, -⟩ := h.readingIsClean hread
  exact { h with
    completeIsClean := fun hf => by simp [hcomplete] at hf
    coolingIsRecorded := fun hf => by simp [hcooling] at hf
    memoryIsCanonical := Memory.write_wf _ _ _ h.memoryIsCanonical
    memoryIsInBounds := Memory.write_inBounds _ _ _ h.memoryIsInBounds (by
      have hbuf := slotExists_inBuffer hslot
      have hidx : s.wrIdx.toNat * s.params.frameMax ≤ 1 * s.params.frameMax :=
        Nat.mul_le_mul_right _ (Nat.le_of_lt_succ s.wrIdx.isLt)
      rw [hlen, slotAddr, linear]
      show _ ≤ 2 * s.params.frameMax
      omega) }

/-- The invariants do not speak of the count of payload errors. -/
theorem State.Inv.drawPayErr {s : State} (h : s.Inv) (n : Nat) : ({ s with payErrDraw := n } : State).Inv := { h with }

/-- While READING the slot may move to any other of the slot space. -/
theorem State.Inv.moveSlot {s : State} (h : s.Inv) {seg : SegIdx} {pkt : PktIdx}
    (hseg1 : 1 ≤ seg.toNat) (hseg2 : seg.toNat ≤ s.cfgSpf.toNat) (hpkt : pkt.toNat < s.cfgPps.toNat) :
    ({ s with seg := seg, pkt := pkt } : State).Inv :=
  { h with readingHasSlot := fun _ => ⟨hseg1, hseg2, hpkt⟩ }

/-- A frame completes with something written and a clean record; whether it is published or dropped, and what the index
and the sequence number become, is free. -/
theorem State.Inv.complete {s : State} (h : s.Inv) (hread : s.fsm = .reading) (hwritten : s.written = true) (dropped : Bool)
    (wrIdx : BufIdx) {frameSeq : FrameSeq} (hseq : frameSeq < 2 ^ s.params.seqW) (e : Event) :
    (finish (({ s with complete := true, dropped := dropped, wrIdx := wrIdx, frameSeq := frameSeq } : State).emit e)).Inv := by
  obtain ⟨hcause, -, hcooling, hreadErr, hbusErr⟩ := h.readingIsClean hread
  exact { h with
    completeIsClean := fun _ => ⟨hwritten, hcause, hreadErr, hbusErr, hcooling⟩
    coolingIsRecorded := fun hf => by simp [hcooling] at hf
    droppedIsComplete := fun _ => rfl
    readingHasSlot := nofun
    readingIsClean := nofun
    readingHasNoResync := nofun
    sequenceFits := hseq }

/-! ### Every effect keeps them -/

/-- `(frame_seq + 1) mod 2^SEQ_W` has SEQ_W bits. -/
theorem nextSeq_lt (s : State) : nextSeq s < 2 ^ s.params.seqW := Nat.mod_lt _ (Nat.two_pow_pos _)

/-- Each way the validation of a stored packet can go keeps the invariants. -/
theorem Validation.inv {id : Half} {s t : State} (hv : Validation id s t) (h : s.Inv) (hread : s.fsm = .reading)
    (hwritten : s.written = true) : t.Inv := by
  obtain ⟨hseg1, hseg2, hpkt⟩ := h.readingHasSlot hread
  cases hv with
  | seqMismatch | tagMismatch => exact h.raise_of_reading hread nofun
  | restart => exact h.moveSlot hseg1 hseg2 (Nat.zero_lt_of_lt hpkt)
  | nextPacket _ _ hlt => exact h.moveSlot hseg1 hseg2 (by bv_omega)
  | nextSegment _ _ _ hlt => exact h.moveSlot (by bv_omega) (by bv_omega) (Nat.zero_lt_of_lt hpkt)
  | published => exact h.complete hread hwritten s.dropped _ (nextSeq_lt s) _
  | dropped => exact h.complete hread hwritten true _ h.sequenceFits _

/-- Each effect of an operation keeps the invariants. -/
theorem Effect.inv {i : Instr} {s t : State} (he : Effect i s t) (h : s.Inv) : t.Inv := by
  cases he with
  | answered r d => exact h.answer r d
  | ignored => exact h.quiet
  | cooled hidle hc => exact (h.answer .ok).raise_cooling (Bool.and_eq_true_iff.1 hc).1
  | started => exact (h.answer .ok).startInvocation
  | requested hidle => exact (h.answer .ok).requestResync hidle
  | configured spf pps len hidle hlegal => exact ((h.answer .ok).configure hidle hlegal).requestResync hidle
  | acquired hfree =>
    have hlt : s.rdCnt < 2 ^ s.params.rcW - 1 := Nat.lt_of_le_of_ne (Nat.le_sub_one_of_lt h.readerCountFits) hfree
    exact { h.answer .ok with readerCountFits := Nat.add_lt_of_lt_sub hlt }
  | released => exact { h.answer .ok with readerCountFits := Nat.lt_of_le_of_lt (Nat.sub_le _ 1) h.readerCountFits }
  | releaseFault => exact { h.answer .fault with }
  | busError hread => exact h.quiet.raise_of_reading hread nofun
  | firstDiscard id crc hread => exact h.quiet.raise_of_reading hread nofun
  | stored id crc hread hslot hv =>
    exact hv.inv (h.quiet.storeSlot hread hslot (payloadBytes_length s)) hread rfl
  | payErr id crc hread hslot =>
    exact ((h.quiet.storeSlot hread hslot (payErrBytes_length s)).drawPayErr _).raise_of_reading hread nofun

/-! ### Every step keeps them -/

/-- The state at which the step goes on once its input is taken. -/
def Fetched.state : Fetched → State
  | .instr _ s => s
  | .settled s => s

/-- A sampled time has TIME_W bits (R28). -/
theorem sampled_lt (p : Params) (now : Nat) : sampled p now < 2 ^ p.timeW := Nat.mod_lt _ (Nat.two_pow_pos _)

/-- Taking the next input keeps the invariants, RESET included. -/
theorem fetch_inv {s : State} (h : s.Inv) : (fetch s).state.Inv := by
  unfold fetch
  split
  · exact h.quiet
  · rename_i port w now rest hin
    unfold takeOp
    split
    · exact h.resample rest _ (sampled_lt _ now)
    · exact h.resample rest _ (sampled_lt _ now)
  · rename_i d payload now rest hin
    exact h.resample rest _ (sampled_lt _ now)
  · exact resetStep_inv h.paramsAreLegal h.nowFits

/-- A step keeps the invariants: taking its input does, and so does the effect of the operation, if there is one. -/
theorem step_inv {s t : State} (h : s.Inv) (hstep : step s = .next t) : t.Inv := by
  have hfetched := fetch_inv h
  rcases step_cases hstep with ⟨i, s', hfetch, he⟩ | hsettled
  · rw [hfetch] at hfetched
    exact he.inv hfetched
  · rwa [hsettled] at hfetched

/-- Settles O36, by `step_inv`. -/
theorem stepsKeepInvariants : Obligations.StepsKeepInvariants :=
  fun _ _ => step_inv

/-! ### At reset -/

/-- The state after reset is safe for every legal value of the static parameters: a RESET step in it changes only the drawing in
force, of which the invariants do not speak. -/
theorem resetWith_safe {p : Params} (hp : legalParams p = true) : (State.resetWith p).Safe where
  inv := { resetStep_inv (s := State.resetWith p) hp (Nat.two_pow_pos _) with }
  noArbFault := rfl

/-- Settles O35: the reference parameters are legal, and legal parameters are all it takes. -/
theorem resetStateIsSafe : Obligations.ResetStateIsSafe :=
  ⟨resetWith_safe legalParams_reference, fun _ => resetWith_safe⟩

/-! ### What they say of the select line -/

/-- Settles O46: a pending request shuts out READING (item 9), and a complete frame was written (item 1). -/
theorem selectIsLowThroughoutCooldown : Obligations.SelectIsLowThroughoutCooldown := by
  intro s h
  refine ⟨fun hpending => ?_, fun houtcome => ?_⟩
  · have hselect : streamSel s = false := by
      cases hf : s.fsm with
      | idle => simp [streamSel, fsmBit, hf]
      | reading => exact absurd (hpending.symm.trans (h.readingHasNoResync hf)) nofun
    exact ⟨hselect, hselect⟩
  · cases hcomplete : s.complete with
    | false => cases hw : s.written <;> simp [outcome, hcomplete, hw] at houtcome
    | true =>
      obtain ⟨hwritten, -⟩ := h.completeIsClean hcomplete
      simp [outcome, hcomplete, hwritten] at houtcome

end Sys2Proof.Machine

/-! ## What an operation leaves unchanged (10_state.md R10, 20_memory.md R42) -/

namespace Sys2Proof.Machine

/-! ### The validation of a stored packet -/

/-- The validation touches neither the geometry, the bytes, `written`, nor what only other operations change. -/
theorem Validation.frame {id : Half} {s t : State} (hv : Validation id s t) :
    SameGeometry s t ∧ t.rdCnt = s.rdCnt ∧ t.arbFault = s.arbFault ∧ t.cooling = s.cooling ∧ t.busErr = s.busErr
      ∧ t.payErrDraw = s.payErrDraw ∧ t.fb = s.fb ∧ t.written = s.written := by
  cases hv with
  | seqMismatch | restart | tagMismatch | nextPacket | nextSegment | published | dropped =>
    exact ⟨⟨rfl, rfl, rfl⟩, rfl, rfl, rfl, rfl, rfl, rfl, rfl⟩

/-- The packet with this ID is valid for the expected slot and that slot is the frame's last (R104, R106). -/
def CompletesFrame (id : Half) (s : State) : Prop :=
  seqOf s.params id = s.pkt.toNat ∧ (s.pkt.toNat = s.params.tagIdx → tagOf s.params id = s.seg.toNat)
    ∧ s.cfgPps.toNat ≤ s.pkt.toNat + 1 ∧ s.cfgSpf.toNat ≤ s.seg.toNat

/-- A validation that completes no frame leaves the arbiter alone. -/
theorem Validation.arbiter_of_incomplete {id : Half} {s t : State} (hv : Validation id s t) (hc : ¬ CompletesFrame id s) :
    SameArbiter s t ∧ t.complete = s.complete ∧ t.dropped = s.dropped := by
  cases hv with
  | seqMismatch | restart | tagMismatch | nextPacket | nextSegment => exact ⟨⟨rfl, rfl, rfl, rfl⟩, rfl, rfl⟩
  | published hseq htag hpkt hseg | dropped hseq htag hpkt hseg =>
    exact absurd ⟨hseq, htag, by omega, Nat.le_of_not_lt hseg⟩ hc

/-! ### The bytes -/

/-- A store leaves every byte outside the expected slot as before, whatever else the step goes on to change. -/
theorem sameBytesOutside_slot {s t : State} {bs : List Byte} (hlen : bs.length = s.cfgLen.toNat)
    (hfb : t.fb = s.fb.write (slotAddr s) bs) (hdraw : t.fbDraw = s.fbDraw) :
    SameBytesOutside (slotAddr s) s.cfgLen.toNat s t :=
  fun _ hx => fbByte_write_outside hfb hdraw (by rwa [hlen])

/-- An operation leaves every byte alone, or it stores, and then only in the expected slot of the write buffer, which exists. -/
theorem Effect.bytes {i : Instr} {s t : State} (he : Effect i s t) :
    SameBytes s t ∨ (slotExists s = true ∧ SameBytesOutside (slotAddr s) s.cfgLen.toNat s t) := by
  cases he with
  | answered | ignored | cooled | started | requested | configured | acquired | released | releaseFault | busError
  | firstDiscard => exact .inl fun _ => rfl
  | stored id crc hread hslot hv =>
    obtain ⟨-, -, -, -, -, -, hfb, -⟩ := hv.frame
    obtain ⟨-, -, -, hdraw⟩ := hv.sameInputs
    exact .inr ⟨hslot, sameBytesOutside_slot (payloadBytes_length s) hfb hdraw⟩
  | payErr id crc hread hslot =>
    exact .inr ⟨hslot, sameBytesOutside_slot (payErrBytes_length s) rfl rfl⟩

/-! ### The frames -/

/-- Settles O18: an answer changes the outputs alone; what READ_FRAME, RESYNC_REQ and CFG_WRITE change beside them is named
in their effects. -/
theorem controlOperationsFrame : Obligations.ControlOperationsFrame := by
  intro i s t hi hexec
  have he := exec_effect hexec
  have hin := he.sameInputs
  cases he with
  | answered =>
    exact ⟨⟨rfl, rfl, rfl, rfl⟩, fun _ => rfl, hin, rfl, fun _ => ⟨rfl, rfl, rfl⟩,
      fun _ => ⟨⟨rfl, rfl, rfl⟩, rfl, rfl, rfl, rfl, rfl, rfl, rfl⟩, fun _ => ⟨rfl, rfl⟩⟩
  | cooled | started =>
    exact ⟨⟨rfl, rfl, rfl, rfl⟩, fun _ => rfl, hin, rfl, fun _ => ⟨rfl, rfl, rfl⟩, fun hne => absurd rfl hne, nofun⟩
  | requested =>
    exact ⟨⟨rfl, rfl, rfl, rfl⟩, fun _ => rfl, hin, rfl, fun _ => ⟨rfl, rfl, rfl⟩,
      fun _ => ⟨⟨rfl, rfl, rfl⟩, rfl, rfl, rfl, rfl, rfl, rfl, rfl⟩, nofun⟩
  | configured spf pps len =>
    exact ⟨⟨rfl, rfl, rfl, rfl⟩, fun _ => rfl, hin, rfl, fun hne => absurd rfl (hne spf pps len),
      fun _ => ⟨⟨rfl, rfl, rfl⟩, rfl, rfl, rfl, rfl, rfl, rfl, rfl⟩, nofun⟩
  | ignored hpkt => rcases hi with rfl | rfl | rfl | ⟨spf, pps, len, rfl⟩ <;> simp [mayIssue] at hpkt
  | busError hread hpkt => rcases hi with rfl | rfl | rfl | ⟨spf, pps, len, rfl⟩ <;> simp at hpkt
  | acquired | released | releaseFault | firstDiscard | stored | payErr => simp at hi

/-- Settles O29: a packet that is not taken or is discarded drives nothing, a condition records its cause, and the validation
of a stored packet has its own frame. -/
theorem packetOperationsFrame : Obligations.PacketOperationsFrame := by
  intro id crc xsHi i s t hi hexec
  have he := exec_effect hexec
  have hin := he.sameInputs
  cases he with
  | ignored | firstDiscard =>
    exact ⟨⟨rfl, rfl, rfl⟩, hin, rfl, rfl, rfl,
      fun _ => ⟨⟨rfl, rfl, rfl, rfl⟩, ⟨rfl, rfl⟩, rfl, rfl, rfl, rfl, rfl⟩, fun _ => rfl,
      fun _ => ⟨rfl, fun _ => ⟨⟨rfl, rfl, rfl, rfl⟩, rfl, rfl⟩⟩, fun _ _ _ => rfl, fun _ _ => ⟨fun _ => rfl, rfl⟩⟩
  | busError hread hpkt =>
    have hvideo : i ≠ .pktVideo id crc := by
      rcases hpkt with ⟨_, _, _, rfl⟩ | ⟨_, _, rfl⟩ <;> exact nofun
    exact ⟨⟨rfl, rfl, rfl⟩, hin, rfl, rfl, rfl,
      fun _ => ⟨⟨rfl, rfl, rfl, rfl⟩, ⟨rfl, rfl⟩, rfl, rfl, rfl, rfl, rfl⟩, fun _ => rfl,
      fun h => absurd h hvideo, fun _ _ _ => rfl, fun _ _ => ⟨fun _ => rfl, rfl⟩⟩
  | stored id' crc' hread hslot hv =>
    obtain ⟨rfl, rfl⟩ : id' = id ∧ crc' = crc := by simpa using hi
    obtain ⟨hgeom, hrd, hfault, hcooling, hbus, hpayErr, hfb, -⟩ := hv.frame
    have ⟨_, _, _, hdraw⟩ := hin
    exact ⟨hgeom, hin, hrd, hfault, hcooling, fun hne => absurd rfl hne, fun _ => hpayErr,
      fun _ => ⟨hbus, fun hc => hv.arbiter_of_incomplete fun h => hc ⟨hread, h⟩⟩,
      fun _ => sameBytesOutside_slot (payloadBytes_length s) hfb hdraw, fun hne => absurd rfl hne⟩
  | payErr id' crc' hread hslot =>
    obtain ⟨rfl, rfl⟩ : id' = id ∧ crc' = crc := by simpa using hi
    exact ⟨⟨rfl, rfl, rfl⟩, hin, rfl, rfl, rfl,
      fun _ => ⟨⟨rfl, rfl, rfl, rfl⟩, ⟨rfl, rfl⟩, rfl, rfl, rfl, rfl, rfl⟩, fun hne => absurd rfl hne,
      nofun, fun _ => sameBytesOutside_slot (payErrBytes_length s) rfl rfl, fun _ hne => absurd rfl hne⟩
  | answered r d hok hop => rcases hi with rfl | rfl | rfl | rfl | rfl <;> simp [mayIssue] at hop
  | cooled | started | requested | configured | acquired | released | releaseFault => simp at hi

end Sys2Proof.Machine

/-! ## What a step can change, element by element (10_state.md R33) -/

namespace Sys2Proof.Machine

/-! ### What a step but RESET does -/

theorem performs_of_instr {s s' : State} {i : Instr} (h : fetch s = .instr i s') : performs s = some i := by
  simp [performs, h]

theorem performs_of_settled {s s' : State} (h : fetch s = .settled s') : performs s = none := by
  simp [performs, h]

/-- A step but RESET is the effect of the operation it performs, at the state with its input taken, or it performs none and
changes no element of R10. -/
theorem step_cases_noReset {s t : State} (hstep : step s = .next t) (hreset : resetIsNext s = false) :
    (∃ i rest sb, fetch s = .instr i { s with inputs := rest, sideband := sb }
      ∧ Effect i { s with inputs := rest, sideband := sb } t)
    ∨ (performs s = none
      ∧ ∃ rest sb out, t = { s with inputs := rest, sideband := sb, outputs := out }) := by
  rcases step_cases hstep with ⟨i, s', hfetch, he⟩ | hsettled
  · obtain ⟨rest, sb, rfl⟩ := fetch_instr_frame hfetch
    exact .inl ⟨i, rest, sb, hfetch, he⟩
  · refine .inr ⟨performs_of_settled hsettled, ?_⟩
    rcases fetch_settled_cases hsettled with ⟨-, rfl⟩ | ⟨rest, sb, p, w, now, -, rfl⟩ | ⟨rest, hin, -⟩
    · exact ⟨s.inputs, s.sideband, _, rfl⟩
    · exact ⟨rest, sb, _, rfl⟩
    · simp [resetIsNext, hin] at hreset

/-- A must-be-zero test gives the operation it guards or none. -/
theorem ifZero_eq_instr {n : Nat} {zero : BitVec n} {i j : Instr} (h : ifZero zero i = .instr j) : i = j := by
  unfold ifZero at h
  split at h
  · exact Decoded.instr.inj h
  · cases h

/-- No operation word decodes to a packet class (R62). -/
theorem decodeOpw_mayIssue {w : Word} {i : Instr} (h : decodeOpw w = .instr i) :
    mayIssue .control i = true ∨ mayIssue .reader i = true := by
  unfold decodeOpw at h
  split at h
  case h_8 => cases h
  all_goals
    obtain rfl := ifZero_eq_instr h
    simp [mayIssue]

/-- A packet class is performed only when a packet is next. -/
theorem packetIsNext_of_instr {s s' : State} {i : Instr} (h : fetch s = .instr i s')
    (hcontrol : mayIssue .control i = false) (hreader : mayIssue .reader i = false) : packetIsNext s = true := by
  rcases fetch_instr_source h with ⟨p, w, now, rest, -, hdec⟩ | ⟨d, pay, now, rest, hin, -⟩
  · have := decodeOpw_mayIssue hdec
    simp [hcontrol, hreader] at this
  · simp [packetIsNext, hin]

/-! ### The index and the sequence number (R22, R24) -/

/-- A validation moves both, when it completes a frame that no reader holds, or neither. -/
theorem Validation.index {id : Half} {s t : State} (hv : Validation id s t) :
    (t.wrIdx = s.wrIdx ∧ t.frameSeq = s.frameSeq)
    ∨ (t.wrIdx = ~~~s.wrIdx ∧ t.frameSeq = nextSeq s ∧ s.rdCnt = 0 ∧ t.complete = true) := by
  cases hv with
  | seqMismatch | restart | tagMismatch | nextPacket | nextSegment | dropped => exact .inl ⟨rfl, rfl⟩
  | published _ _ _ _ hrd => exact .inr ⟨rfl, rfl, hrd, rfl⟩

/-- Only PKT.VIDEO moves them. -/
theorem Effect.index {i : Instr} {s t : State} (he : Effect i s t) :
    (t.wrIdx = s.wrIdx ∧ t.frameSeq = s.frameSeq)
    ∨ ((∃ id crc, i = .pktVideo id crc)
      ∧ t.wrIdx = ~~~s.wrIdx ∧ t.frameSeq = nextSeq s ∧ s.rdCnt = 0 ∧ t.complete = true) := by
  cases he with
  | stored id crc hread hslot hv => exact hv.index.imp_right fun h => ⟨⟨id, crc, rfl⟩, h⟩
  | answered | ignored | cooled | started | requested | configured | acquired | released | releaseFault | busError
  | firstDiscard | payErr => exact .inl ⟨rfl, rfl⟩

/-- Settles O39: `Effect.index`, and PKT.VIDEO comes from a packet. -/
theorem indexAndSequenceMoveTogether : Obligations.IndexAndSequenceMoveTogether := by
  intro s t hstep hreset
  rcases step_cases_noReset hstep hreset with ⟨i, rest, sb, hfetch, he⟩ | ⟨-, rest, sb, out, rfl⟩
  · rcases he.index with hsame | ⟨⟨id, crc, rfl⟩, hidx, hseq, hrd, hcomplete⟩
    · exact .inl hsame
    · exact .inr ⟨hidx, hseq, hrd, packetIsNext_of_instr hfetch rfl rfl, hcomplete⟩
  · exact .inl ⟨rfl, rfl⟩

/-! ### The read buffer (R33 item 8) -/

/-- Settles O40: a store stays in its slot, which lies in the write buffer, and the buffers do not overlap. -/
theorem readBufferIsNeverWritten : Obligations.ReadBufferIsNeverWritten := by
  intro s t hstep hreset off hoff
  rcases step_cases_noReset hstep hreset with ⟨i, rest, sb, -, he⟩ | ⟨-, rest, sb, out, rfl⟩
  · rcases he.bytes with hsame | ⟨hslot, houtside⟩
    · exact hsame _
    · exact houtside _ (linear_other_buffer hoff (slotExists_inBuffer hslot))
  · rfl

/-! ### The geometry (R11 to R13) -/

/-- Only a CFG_WRITE accepted in IDLE changes the geometry, to the legal values it carries, and it leaves a resync pending. -/
theorem Effect.geometry {i : Instr} {s t : State} (he : Effect i s t) :
    SameGeometry s t
    ∨ (s.fsm = .idle ∧ i = .cfgWrite t.cfgSpf t.cfgPps t.cfgLen
      ∧ legalGeometry s.params t.cfgSpf t.cfgPps t.cfgLen = true ∧ t.resyncPending = true) := by
  cases he with
  | configured spf pps len hidle hlegal => exact .inr ⟨hidle, rfl, hlegal, rfl⟩
  | stored id crc hread hslot hv => exact .inl hv.frame.1
  | answered | ignored | cooled | started | requested | acquired | released | releaseFault | busError | firstDiscard
  | payErr => exact .inl ⟨rfl, rfl, rfl⟩

/-- Settles O43, by `Effect.geometry`. -/
theorem geometryChangesOnlyInIdle : Obligations.GeometryChangesOnlyInIdle := by
  intro s t hstep hreset hchanged
  rcases step_cases_noReset hstep hreset with ⟨i, rest, sb, hfetch, he⟩ | ⟨-, rest, sb, out, rfl⟩
  · rcases he.geometry with hsame | ⟨hidle, rfl, hlegal, hpending⟩
    · exact absurd hsame hchanged
    · exact ⟨hidle, performs_of_instr hfetch, hlegal, hpending⟩
  · exact absurd ⟨rfl, rfl, rfl⟩ hchanged

/-! ### The resync request (R18, R19) -/

/-- The step leaves a request pending that carries the time it sampled. -/
def Requests (t : State) : Prop := t.resyncPending = true ∧ t.resyncT0 = t.sideband.now

/-- A validation leaves the request alone or makes one. -/
theorem Validation.resync {id : Half} {s t : State} (hv : Validation id s t) : SameResync s t ∨ Requests t := by
  cases hv with
  | seqMismatch | tagMismatch => exact .inr ⟨rfl, rfl⟩
  | restart | nextPacket | nextSegment | published | dropped => exact .inl ⟨rfl, rfl⟩

/-- An operation leaves the request alone, or makes one, or is a READ_FRAME that starts an invocation. -/
theorem Effect.resync {i : Instr} {s t : State} (he : Effect i s t) :
    SameResync s t ∨ Requests t
    ∨ (i = .readFrame ∧ t.fsm = .reading ∧ inCooldown s = false ∧ t.resyncPending = false ∧ t.resyncT0 = s.resyncT0) := by
  cases he with
  | requested | configured => exact .inr (.inl ⟨rfl, rfl⟩)
  | started hidle hc => exact .inr (.inr ⟨rfl, rfl, hc, rfl, rfl⟩)
  | stored id crc hread hslot hv => exact hv.resync.imp_right .inl
  | answered | ignored | cooled | acquired | released | releaseFault | busError | firstDiscard | payErr =>
    exact .inl ⟨rfl, rfl⟩

/-- An operation that sets the flag or changes the recorded time makes a request. -/
theorem Effect.requests_of_moved {i : Instr} {s t : State} (he : Effect i s t)
    (hmoved : (s.resyncPending = false ∧ t.resyncPending = true) ∨ t.resyncT0 ≠ s.resyncT0) : Requests t := by
  rcases he.resync with ⟨hflag, htime⟩ | hrequests | ⟨-, -, -, hcleared, htime⟩
  · exact absurd hmoved (by simp [hflag, htime])
  · exact hrequests
  · exact absurd hmoved (by simp [hcleared, htime])

/-- RESYNC_REQ and CFG_WRITE make a request when they are answered OK. -/
theorem Effect.requests_of_ok {i : Instr} {s t : State} (he : Effect i s t)
    (hi : i = .resyncReq ∨ ∃ spf pps len, i = .cfgWrite spf pps len) (hok : t.outputs.resp = some .ok) : Requests t := by
  cases he with
  | requested | configured => exact ⟨rfl, rfl⟩
  | answered r d hnop =>
    have hr : r = .ok := Option.some.inj hok
    rcases hi with rfl | ⟨spf, pps, len, rfl⟩ <;> simp [hr] at hnop
  | ignored => cases hok
  | busError => cases hok
  | cooled | started | acquired | released | releaseFault | firstDiscard | stored | payErr => simp at hi

/-- A validation that ends the invocation makes a request unless it completes the frame. -/
theorem Validation.requests_of_ended {id : Half} {s t : State} (hv : Validation id s t) (hread : s.fsm = .reading)
    (hidle : t.fsm = .idle) (hincomplete : t.complete = false) : Requests t := by
  cases hv with
  | seqMismatch | tagMismatch => exact ⟨rfl, rfl⟩
  | restart | nextPacket | nextSegment => exact absurd (hread.symm.trans hidle) nofun
  | published | dropped => exact absurd hincomplete nofun

/-- So does PKT.VIDEO. -/
theorem Effect.requests_of_ended {id crc : Half} {s t : State} (he : Effect (.pktVideo id crc) s t)
    (hread : s.fsm = .reading) (hidle : t.fsm = .idle) (hincomplete : t.complete = false) : Requests t := by
  cases he with
  | stored _ _ _ _ hv => exact hv.requests_of_ended hread hidle hincomplete
  | ignored => exact absurd (hread.symm.trans hidle) nofun
  | answered r d _ hop => simp [mayIssue] at hop
  | busError _ hpkt => simp at hpkt

/-- Settles O44: of the ways of `Effect.resync` only a starting READ_FRAME clears the flag, and it found the window passed. -/
theorem resyncFlagClearsOnlyAfterTheWindow : Obligations.ResyncFlagClearsOnlyAfterTheWindow := by
  intro s t hstep hpending hcleared
  cases hreset : resetIsNext s with
  | true => exact .inl rfl
  | false =>
    refine .inr ?_
    rcases step_cases_noReset hstep hreset with ⟨i, rest, sb, hfetch, he⟩ | ⟨-, rest, sb, out, rfl⟩
    · rcases he.resync with ⟨hsame, -⟩ | ⟨hset, -⟩ | ⟨rfl, hstarted, hwindow, -, -⟩
      · exact absurd (hpending.symm.trans (hsame.symm.trans hcleared)) nofun
      · exact absurd (hset.symm.trans hcleared) nofun
      · obtain ⟨-, -, hsideband, -⟩ := he.sameInputs
        refine ⟨performs_of_instr hfetch, hstarted, ?_⟩
        rw [hsideband]
        simpa [inCooldown, hpending] using hwindow
    · exact absurd (hpending.symm.trans hcleared) nofun

/-- Settles O45: each kind of request by its lemma; a step that performs no operation makes none and moves nothing. -/
theorem resyncRequestsRecordTheirTime : Obligations.ResyncRequestsRecordTheirTime := by
  intro s t hstep hreset hcase
  rcases step_cases_noReset hstep hreset with ⟨i, rest, sb, hfetch, he⟩ | ⟨hnone, rest, sb, out, rfl⟩
  · rw [performs_of_instr hfetch] at hcase
    rcases hcase with ⟨hok, hi⟩ | ⟨⟨id, crc, hi⟩, hread, hidle, hincomplete⟩ | hmoved
    · exact he.requests_of_ok (by simpa using hi) hok
    · obtain rfl : i = .pktVideo id crc := Option.some.inj hi
      exact he.requests_of_ended hread hidle hincomplete
    · exact he.requests_of_moved hmoved
  · rw [hnone] at hcase
    rcases hcase with ⟨-, hi⟩ | ⟨⟨id, crc, hi⟩, -⟩ | ⟨hbefore, hafter⟩ | hne
    · simp at hi
    · cases hi
    · exact absurd (hbefore.symm.trans hafter) nofun
    · exact absurd rfl hne

/-! ### The consumers' faults (R25) -/

/-- Only an RD_RELEASE that finds no reader touches `arb_fault`, and it sets it. -/
theorem Effect.arbFault {i : Instr} {s t : State} (he : Effect i s t) :
    t.arbFault = s.arbFault ∨ (i = .rdRelease ∧ s.rdCnt = 0 ∧ t.rdCnt = 0 ∧ t.arbFault = true) := by
  cases he with
  | releaseFault hzero => exact .inr ⟨rfl, hzero, hzero, rfl⟩
  | stored id crc hread hslot hv =>
    obtain ⟨-, -, hfault, -⟩ := hv.frame
    exact .inl hfault
  | answered | ignored | cooled | started | requested | configured | acquired | released | busError | firstDiscard
  | payErr => exact .inl rfl

/-- Settles O47, by `Effect.arbFault`. -/
theorem arbFaultIsSticky : Obligations.ArbFaultIsSticky := by
  intro s t hstep hreset
  rcases step_cases_noReset hstep hreset with ⟨i, rest, sb, hfetch, he⟩ | ⟨-, rest, sb, out, rfl⟩
  · rcases he.arbFault with hsame | ⟨rfl, hbefore, hafter, hset⟩
    · exact ⟨hsame.trans, fun hclear h => absurd (hclear.symm.trans (hsame.symm.trans h)) nofun⟩
    · exact ⟨fun _ => hset, fun _ _ => ⟨performs_of_instr hfetch, hbefore, hafter⟩⟩
  · exact ⟨id, fun hclear h => absurd (hclear.symm.trans h) nofun⟩

/-! ### The reader count (R23) -/

/-- The count grows by one in an RD_ACQUIRE answered OK, shrinks by one in an RD_RELEASE answered OK, and stands still
otherwise. -/
theorem Effect.rdCnt {i : Instr} {s t : State} (he : Effect i s t) :
    (i = .rdAcquire ∧ t.outputs.resp = some .ok ∧ t.rdCnt = s.rdCnt + 1)
    ∨ (i = .rdRelease ∧ t.outputs.resp = some .ok ∧ t.rdCnt + 1 = s.rdCnt)
    ∨ ((t.outputs.resp = some .ok → i ≠ .rdAcquire ∧ i ≠ .rdRelease) ∧ t.rdCnt = s.rdCnt) := by
  cases he with
  | acquired => exact .inl ⟨rfl, rfl, rfl⟩
  | released hheld => exact .inr (.inl ⟨rfl, rfl, Nat.succ_pred_eq_of_ne_zero hheld⟩)
  | releaseFault => exact .inr (.inr ⟨nofun, rfl⟩)
  | answered r d hnop =>
    refine .inr (.inr ⟨fun hok => ?_, rfl⟩)
    rcases hnop (Option.some.inj hok) with rfl | ⟨buf, off, rfl⟩ <;> exact ⟨nofun, nofun⟩
  | busError => exact .inr (.inr ⟨nofun, rfl⟩)
  | stored id crc hread hslot hv =>
    obtain ⟨-, hrd, -⟩ := hv.frame
    exact .inr (.inr ⟨fun _ => ⟨nofun, nofun⟩, hrd⟩)
  | ignored => exact .inr (.inr ⟨nofun, rfl⟩)
  | cooled | started | requested | configured | firstDiscard | payErr =>
    exact .inr (.inr ⟨fun _ => ⟨nofun, nofun⟩, rfl⟩)

/-- The counting law of one step. -/
theorem step_rdCnt {s t : State} (hstep : step s = .next t) (hreset : resetIsNext s = false) :
    t.rdCnt + (released s t).toNat = s.rdCnt + (granted s t).toNat := by
  rcases step_cases_noReset hstep hreset with ⟨i, rest, sb, hfetch, he⟩ | ⟨hnone, rest, sb, out, rfl⟩
  · have hi := performs_of_instr hfetch
    rcases he.rdCnt with ⟨rfl, hok, hrd⟩ | ⟨rfl, hok, hrd⟩ | ⟨hother, hrd⟩
    · simp [granted, released, hi, hok, hrd]
    · simpa [granted, released, hi, hok] using hrd
    · by_cases hok : t.outputs.resp = some .ok
      · obtain ⟨hacquire, hrelease⟩ := hother hok
        simp [granted, released, hi, hacquire, hrelease, hrd]
      · simp [granted, released, hok, hrd]
  · simp [granted, released, hnone]

/-- A run of one step more, taken apart at its first step. -/
theorem runSteps_succ_eq_next {k : Nat} {s u : State} (h : runSteps (k + 1) s = .next u) :
    ∃ t, step s = .next t ∧ runSteps k t = .next u := by
  unfold runSteps at h
  split at h
  · exact ⟨_, ‹_›, h⟩
  · cases h
  · cases h

theorem countSteps_succ {s t : State} (h : step s = .next t) (p : State → State → Bool) (k : Nat) :
    countSteps p (k + 1) s = (p s t).toNat + countSteps p k t := by
  simp [countSteps, h]

/-- Settles O53, by induction on the number of steps with the law of one step. -/
theorem readerCountIsGrantsLessReleases : Obligations.ReaderCountIsGrantsLessReleases := by
  intro k
  induction k with
  | zero =>
    intro s t hrun _
    cases hrun
    rfl
  | succ k ih =>
    intro s u hrun hresets
    obtain ⟨t, hstep, hrest⟩ := runSteps_succ_eq_next hrun
    rw [resets, countSteps_succ hstep, Nat.add_eq_zero_iff, Bool.toNat_eq_zero] at hresets
    have hfirst := step_rdCnt hstep hresets.1
    have hlater := ih t u hrest hresets.2
    rw [releases, grants, countSteps_succ hstep, countSteps_succ hstep]
    calc u.rdCnt + ((released s t).toNat + releases k t)
        = u.rdCnt + releases k t + (released s t).toNat := by rw [Nat.add_comm (released s t).toNat, Nat.add_assoc]
      _ = t.rdCnt + grants k t + (released s t).toNat := by rw [hlater]
      _ = t.rdCnt + (released s t).toNat + grants k t := Nat.add_right_comm _ _ _
      _ = s.rdCnt + (granted s t).toNat + grants k t := by rw [hfirst]
      _ = s.rdCnt + ((granted s t).toNat + grants k t) := Nat.add_assoc _ _ _

end Sys2Proof.Machine

/-! ## The control registers are views (10_state.md R27)

A field of a view is found by walking down the appends to it: `extract_append_high` and `extract_append_low` for a field,
`BitVec.getLsbD_append` for a bit. -/

namespace Sys2Proof.Machine

/-- `fsm` is shown as READING or not. -/
theorem fsmBit_eq (f : Fsm) : fsmBit f = decide (f = .reading) := by cases f <;> rfl

/-- The one-bit fields of CR0. -/
theorem cr0_bits (s : State) :
    (cr0 s).getLsbD 0 = decide (s.fsm = .reading) ∧ (cr0 s).getLsbD 1 = s.complete ∧ (cr0 s).getLsbD 2 = s.written
    ∧ (cr0 s).getLsbD 3 = s.readErr ∧ (cr0 s).getLsbD 4 = s.busErr ∧ (cr0 s).getLsbD 5 = s.cooling
    ∧ (cr0 s).getLsbD 6 = s.resyncPending ∧ (cr0 s).getLsbD 7 = s.arbFault ∧ (cr0 s).getLsbD 11 = s.dropped := by
  simp only [cr0, BitVec.getLsbD_append, fsmBit_eq]
  simp

/-- The cause code of CR0 and its reserved bits. -/
theorem cr0_fields (s : State) :
    (cr0 s).extractLsb' 8 3 = causeCode s.cause ∧ (cr0 s).extractLsb' 12 4 = 0#4 := by
  simp (disch := decide) only [cr0, extract_append_high, extract_append_low]
  simp

theorem cr1_fields (s : State) :
    (cr1 s).extractLsb' 0 12 = s.pkt ∧ (cr1 s).extractLsb' 12 3 = s.seg ∧ (cr1 s).getLsbD 15 = false := by
  simp (disch := decide) only [cr1, extract_append_high, extract_append_low, BitVec.getLsbD_append]
  simp

theorem cr2_fields (s : State) :
    (cr2 s).extractLsb' 0 8 = s.cfgLen ∧ (cr2 s).extractLsb' 8 12 = s.cfgPps
    ∧ (cr2 s).extractLsb' 20 3 = s.cfgSpf ∧ (cr2 s).extractLsb' 23 9 = 0#9 := by
  simp (disch := decide) only [cr2, extract_append_high, extract_append_low]
  simp

theorem cr4_fields (s : State) :
    (cr4 s).extractLsb' 0 8 = BitVec.ofNat 8 s.rdCnt ∧ (cr4 s).extractLsb' 8 1 = s.wrIdx
    ∧ (cr4 s).extractLsb' 9 1 = ~~~s.wrIdx ∧ (cr4 s).extractLsb' 10 6 = 0#6 := by
  simp (disch := decide) only [cr4, rdIdx, extract_append_high, extract_append_low]
  simp

/-- Settles O13: register by register; a number that fits its field is shown whole, as `Nat.mod_eq_of_lt` says. -/
theorem controlRegistersShowTheElements : Obligations.ControlRegistersShowTheElements := by
  refine ⟨fun s => ?_, rfl, rfl, rfl, rfl, rfl, rfl, rfl, rfl, rfl, rfl, rfl, rfl⟩
  obtain ⟨hfsm, hcomplete, hwritten, hreadErr, hbusErr, hcooling, hresync, harbFault, hdropped⟩ := cr0_bits s
  obtain ⟨hcause, hreserved0⟩ := cr0_fields s
  obtain ⟨hpkt, hseg, hreserved1⟩ := cr1_fields s
  obtain ⟨hlen, hpps, hspf, hreserved2⟩ := cr2_fields s
  obtain ⟨hrdCnt, hwrIdx, hrdIdx, hreserved4⟩ := cr4_fields s
  exact ⟨hfsm, hcomplete, hwritten, hreadErr, hbusErr, hcooling, hresync, harbFault, hcause, hdropped, hreserved0,
    hpkt, hseg, hreserved1, hlen, hpps, hspf, hreserved2, Nat.mod_eq_of_lt,
    fun hfits => (congrArg BitVec.toNat hrdCnt).trans (Nat.mod_eq_of_lt hfits),
    hwrIdx, hrdIdx, hreserved4, Nat.mod_eq_of_lt⟩

end Sys2Proof.Machine

/-! ## The frame store: the slots and their bytes (20_memory.md) -/

namespace Sys2Proof.Machine

/-! ### The slots tile the frame (R41) -/

/-- The slot that holds an offset: with `off / cfg_len` the offset's slot number in the frame, the quotient and the remainder
by `cfg_pps` are the segment and the packet. -/
theorem slot_holds_iff {pps : PktIdx} {len : PayLen} {seg : SegIdx} {pkt : PktIdx} {off : Nat} (hlen : 0 < len.toNat)
    (hpkt : pkt.toNat < pps.toNat) :
    (slotOffset pps len seg pkt ≤ off ∧ off < slotOffset pps len seg pkt + len.toNat)
      ↔ off / len.toNat / pps.toNat = seg.toNat - 1 ∧ off / len.toNat % pps.toNat = pkt.toNat := by
  have hnumber : (slotOffset pps len seg pkt ≤ off ∧ off < slotOffset pps len seg pkt + len.toNat)
      ↔ off / len.toNat = (seg.toNat - 1) * pps.toNat + pkt.toNat := by
    rw [Nat.div_eq_iff hlen, slotOffset]
    omega
  rw [hnumber, Nat.div_mod_unique (Nat.zero_lt_of_lt hpkt), Nat.mul_comm, Nat.add_comm]
  exact ⟨fun h => ⟨h.symm, hpkt⟩, fun h => h.1.symm⟩

/-- Every slot number below `cfg_spf × cfg_pps` is that of a slot, since its quotient and its remainder fit the two indices. -/
theorem exists_slot_of_number {spf : SegIdx} {pps : PktIdx} {q : Nat} (hq : q < spf.toNat * pps.toNat) :
    ∃ (seg : SegIdx) (pkt : PktIdx), 1 ≤ seg.toNat ∧ seg.toNat ≤ spf.toNat ∧ pkt.toNat < pps.toNat
      ∧ q / pps.toNat = seg.toNat - 1 ∧ q % pps.toNat = pkt.toNat := by
  have hdiv : q / pps.toNat < spf.toNat := Nat.div_lt_of_lt_mul (by rwa [Nat.mul_comm])
  have hmod : q % pps.toNat < pps.toNat := Nat.mod_lt _ (Nat.pos_of_lt_mul_left hq)
  have hseg : (BitVec.ofNat 3 (q / pps.toNat + 1)).toNat = q / pps.toNat + 1 :=
    Nat.mod_eq_of_lt (Nat.lt_of_le_of_lt hdiv spf.isLt)
  have hpkt : (BitVec.ofNat 12 (q % pps.toNat)).toNat = q % pps.toNat :=
    Nat.mod_eq_of_lt (Nat.lt_trans hmod pps.isLt)
  refine ⟨BitVec.ofNat 3 (q / pps.toNat + 1), BitVec.ofNat 12 (q % pps.toNat), ?_⟩
  rw [hseg, hpkt]
  exact ⟨Nat.succ_pos _, hdiv, hmod, rfl, rfl⟩

/-- Settles O52: a slot ends below FrameBytes by `slotOffset_add_le`; the slot with an offset's number holds it, and only that
one does (`slot_holds_iff`). -/
theorem slotsTileTheFrame : Obligations.SlotsTileTheFrame := by
  intro p spf pps len _
  refine ⟨fun seg pkt => slotOffset_add_le, fun off hoff => ?_⟩
  have hlen : 0 < len.toNat := Nat.pos_of_lt_mul_left hoff
  obtain ⟨seg, pkt, hfirst, hlast, hpkt, hnumber⟩ :=
    exists_slot_of_number (q := off / len.toNat) (Nat.div_lt_of_lt_mul (by rwa [Nat.mul_comm]))
  obtain ⟨hlow, hhigh⟩ := (slot_holds_iff hlen hpkt).2 hnumber
  refine ⟨seg, pkt, ⟨hfirst, hlast, hpkt, hlow, hhigh⟩, fun seg' pkt' hfirst' _ hpkt' hlow' hhigh' => ?_⟩
  obtain ⟨hseg, hmod⟩ := hnumber
  obtain ⟨hseg', hmod'⟩ := (slot_holds_iff hlen hpkt').1 ⟨hlow', hhigh'⟩
  exact ⟨BitVec.eq_of_toNat_eq (by omega), BitVec.eq_of_toNat_eq (hmod'.symm.trans hmod)⟩

/-! ### A stored packet (R42, R45) -/

/-- Settles O26: the store writes the payload at the slot's address, and the validation that follows touches neither the bytes
nor `written`. -/
theorem videoStoresPayloadInExpectedSlot : Obligations.VideoStoresPayloadInExpectedSlot := by
  intro id crc s hread hslot
  have hv := validatePacket_cases id (storeSlot (payloadBytes s) s.quiet)
  obtain ⟨-, -, -, -, -, -, hfb, hwritten⟩ := hv.frame
  obtain ⟨-, -, -, hdraw⟩ := hv.sameInputs
  exact ⟨_, exec_pktVideo_reading hread id crc hslot, hwritten,
    fun i h hi => fbByte_write_inside (s := s) (a := slotAddr s) hfb (payloadBytes_getElem h hi),
    sameBytesOutside_slot (payloadBytes_length s) hfb hdraw⟩

/-! ### An acquired buffer (R57) -/

/-- What a consumer that holds the read buffer relies on: the same buffer, with the same number and the same bytes. -/
structure SameReadBuffer (s t : State) : Prop where
  params : t.params = s.params
  wrIdx : t.wrIdx = s.wrIdx
  frameSeq : t.frameSeq = s.frameSeq
  bytes : ∀ off, off < s.params.frameMax →
    t.fbByte (linear s.params (rdIdx s) off) = s.fbByte (linear s.params (rdIdx s) off)

theorem SameReadBuffer.trans {s t u : State} (hst : SameReadBuffer s t) (htu : SameReadBuffer t u) :
    SameReadBuffer s u where
  params := htu.params.trans hst.params
  wrIdx := htu.wrIdx.trans hst.wrIdx
  frameSeq := htu.frameSeq.trans hst.frameSeq
  bytes off hoff := by
    have hlater := htu.bytes off (by rwa [hst.params])
    rw [rdIdx, hst.params, hst.wrIdx] at hlater
    exact hlater.trans (hst.bytes off hoff)

/-- A step but RESET keeps the read buffer while any reader is counted, since PUBLISH then drops its frame (R133). -/
theorem step_sameReadBuffer {s t : State} (hstep : step s = .next t) (hreset : resetIsNext s = false)
    (hheld : 0 < s.rdCnt) : SameReadBuffer s t := by
  have hbytes := readBufferIsNeverWritten s t hstep hreset
  rcases indexAndSequenceMoveTogether s t hstep hreset with ⟨hidx, hseq⟩ | ⟨-, -, hfree, -⟩
  · exact ⟨step_params hstep, hidx, hseq, hbytes⟩
  · exact absurd hfree (Nat.ne_of_gt hheld)

/-- A run without RESET keeps the read buffer and leaves a reader counted, if at no point the releases answered OK have reached
the readers there were and those granted since. -/
theorem runSteps_sameReadBuffer {k : Nat} {s t : State} (hrun : runSteps k s = .next t) (hresets : resets k s = 0)
    (hheld : ∀ j, j ≤ k → releases j s < s.rdCnt + grants j s) : 0 < t.rdCnt ∧ SameReadBuffer s t := by
  induction k generalizing s with
  | zero =>
    cases hrun
    exact ⟨hheld 0 (Nat.le_refl 0), rfl, rfl, rfl, fun _ _ => rfl⟩
  | succ k ih =>
    obtain ⟨u, hstep, hrest⟩ := runSteps_succ_eq_next hrun
    rw [resets, countSteps_succ hstep, Nat.add_eq_zero_iff, Bool.toNat_eq_zero] at hresets
    obtain ⟨hreset, hresets⟩ := hresets
    have hcount := Nat.le_of_eq (step_rdCnt hstep hreset).symm
    have hlater : ∀ j, j ≤ k → releases j u < u.rdCnt + grants j u := fun j hj => by
      have h := hheld (j + 1) (Nat.succ_le_succ hj)
      rw [releases, grants, countSteps_succ hstep, countSteps_succ hstep] at h
      rw [releases, grants]
      omega
    obtain ⟨hcounted, hsame⟩ := ih hrest hresets hlater
    exact ⟨hcounted, (step_sameReadBuffer hstep hreset (hheld 0 (Nat.zero_le _))).trans hsame⟩

/-- An RD_ACQUIRE answered OK hands out the read index and the sequence number and counts one more reader (R130). -/
theorem Effect.of_acquire_ok {s t : State} (he : Effect .rdAcquire s t) (hok : t.outputs.resp = some .ok) :
    t = { s.answer .ok (.acquired (rdIdx s) s.frameSeq) with rdCnt := s.rdCnt + 1 } := by
  cases he with
  | acquired => rfl
  | answered r d hnop => exact absurd (hnop (Option.some.inj hok)) nofun
  | ignored hpkt => exact absurd hpkt.2 nofun
  | busError _ hpkt => exact absurd hpkt nofun

/-- What a granting step does: the hand-out, one more reader, and the read buffer as it was. -/
theorem step_of_granted {s t : State} (hstep : step s = .next t) (hgrant : granted s t = true) :
    t.outputs.ret = .acquired (rdIdx s) s.frameSeq ∧ t.rdCnt = s.rdCnt + 1 ∧ SameReadBuffer s t := by
  obtain ⟨hperforms, hok⟩ : performs s = some .rdAcquire ∧ t.outputs.resp = some .ok := by simpa [granted] using hgrant
  rcases step_cases hstep with ⟨i, s', hfetch, he⟩ | hsettled
  · obtain rfl : i = .rdAcquire := Option.some.inj ((performs_of_instr hfetch).symm.trans hperforms)
    obtain ⟨rest, sb, rfl⟩ := fetch_instr_frame hfetch
    obtain rfl := he.of_acquire_ok hok
    exact ⟨rfl, rfl, rfl, rfl, rfl, fun _ _ => rfl⟩
  · rw [performs_of_settled hsettled] at hperforms
    cases hperforms

/-- Settles O54: the grant counts the consumer beside the others (`step_of_granted`), so releases that never exceed the others'
acquisitions leave it counted, and the run keeps its buffer (`runSteps_sameReadBuffer`). -/
theorem heldBufferIsNeverTorn : Obligations.HeldBufferIsNeverTorn := by
  intro s a t k hstep hgrant hrun hresets hdiscipline
  obtain ⟨hret, hcount, hgranted⟩ := step_of_granted hstep hgrant
  have hheld : ∀ j, j ≤ k → releases j a < a.rdCnt + grants j a := fun j hj => by
    rw [hcount, Nat.add_right_comm]
    exact Nat.lt_succ_of_le (hdiscipline j hj)
  obtain ⟨hcounted, hkept⟩ := runSteps_sameReadBuffer hrun hresets hheld
  have hsame := hgranted.trans hkept
  exact ⟨hret, hcounted, hsame.wrIdx, hsame.frameSeq, hsame.bytes⟩

end Sys2Proof.Machine

/-! ## The encodings (30_encoding.md R61 to R67) -/

namespace Sys2Proof.Machine

/-! ### Decoding an encoding -/

theorem decodeOpw_cfgWrite (spf : SegIdx) (pps : PktIdx) (len : PayLen) :
    decodeOpw (0x3#4 ++ (0#5 ++ spf ++ pps ++ len)) = .instr (.cfgWrite spf pps len) := by
  rw [decodeOpw, opcOf_append, show (0x3#4).toNat = 3 from rfl]
  simp (disch := decide) only [extract_append_high, extract_append_low]
  simp [ifZero]

theorem decodeOpw_fbRead (buf : BufIdx) (off : Half) :
    decodeOpw (0x6#4 ++ (buf ++ 0#11 ++ off)) = .instr (.fbRead buf off) := by
  rw [decodeOpw, opcOf_append, show (0x6#4).toNat = 6 from rfl]
  simp (disch := decide) only [extract_append_high, extract_append_low]
  simp [ifZero]

/-- A failed header transfer is an odd `xs`, one of the two values that the first line of R66 names. -/
theorem odd_xs (x : BitVec 1) : x ++ 1#1 = 1#2 ∨ x ++ 1#1 = 3#2 := by
  revert x
  decide

/-- Bit 33 of a descriptor is the upper bit of `xs`. -/
theorem bit33_append (x y : BitVec 1) (id crc : Half) : (x ++ y ++ id ++ crc).extractLsb' 33 1 = x := by
  simp (disch := decide) only [extract_append_high]
  exact extract_all x

/-- Settles O2: an operation word by its operand fields, a packet class by the first line of R66 that its `xs` and its discard
predicate satisfy. -/
theorem encodedOperationsDecodeBack : Obligations.EncodedOperationsDecodeBack := by
  intro p i hwf
  cases i with
  | nop | readFrame | resyncReq | rdAcquire | rdRelease => rfl
  | cfgWrite spf pps len => exact decodeOpw_cfgWrite spf pps len
  | fbRead buf off => exact decodeOpw_fbRead buf off
  | pktHdrErr x id crc => simp [decode, encode, pdOf, decodePd, odd_xs x, bit33_append]
  | pktDiscard id crc | pktDiscardPayerr id crc =>
    have hdiscard : isDiscard p id = true := hwf
    simp [decode, encode, pdOf, decodePd, hdiscard]
  | pktVideo id crc | pktVideoPayerr id crc =>
    have hvideo : isDiscard p id = false := (Bool.not_eq_true' _).mp hwf
    simp [decode, encode, pdOf, decodePd, hvideo]

/-! ### Encoding what was decoded -/

theorem ifZero_eq_instr_iff {n : Nat} {zero : BitVec n} {i j : Instr} :
    ifZero zero i = .instr j ↔ zero = 0#n ∧ i = j := by
  unfold ifZero
  split <;> simp [*]

/-- An operation word is put together from its opcode and its operand bits. -/
theorem opwOf_eq {w : Word} {opc : BitVec 4} {operands : BitVec 28} (hopc : (opcOf w).toNat = opc.toNat)
    (hoperands : operandBits w = operands) : opwOf opc operands = .opw w := by
  rw [opwOf, ← BitVec.eq_of_toNat_eq hopc, ← hoperands, opc_operands]

/-- A word that decodes has the opcode of its operation and zeros where the operation has no operand. -/
theorem wellFormed_encode_of_decodeOpw (p : Params) {w : Word} {i : Instr} (h : decodeOpw w = .instr i) :
    i.WellFormed p ∧ encode i = .opw w := by
  unfold decodeOpw at h
  split at h
  case h_8 => cases h
  all_goals
    rename_i hopc
    obtain ⟨hzero, rfl⟩ := ifZero_eq_instr_iff.1 h
    refine ⟨rfl, opwOf_eq hopc ?_⟩
  case h_4 => rw [← cfg_fields, hzero]
  case h_7 => rw [← fb_fields, hzero]
  all_goals exact hzero

/-- A descriptor is put together from its three fields. -/
theorem pdOf_eq {d : Desc} {xs : BitVec 2} (hxs : xsOf d = xs) : pdOf xs (idOf d) (crcOf d) = .pd d := by
  rw [pdOf, ← hxs, xs_id_crc]

/-- The values of `xs`, by what they say of the transfers: the header's failed, the payload's failed, none did (R64). -/
theorem xs_cases (xs : BitVec 2) : (∃ x : BitVec 1, xs = x ++ 1#1) ∨ xs = 2#2 ∨ xs = 0#2 := by
  revert xs
  decide

/-- Every descriptor is the encoding of a packet class: the lines of R66 leave none out. -/
theorem exists_encode_eq_pd (p : Params) (d : Desc) : ∃ i : Instr, i.WellFormed p ∧ encode i = .pd d := by
  rcases xs_cases (xsOf d) with ⟨x, hxs⟩ | hxs | hxs
  · exact ⟨.pktHdrErr x (idOf d) (crcOf d), rfl, pdOf_eq hxs⟩
  · cases hid : isDiscard p (idOf d) with
    | true => exact ⟨.pktDiscardPayerr (idOf d) (crcOf d), hid, pdOf_eq hxs⟩
    | false => exact ⟨.pktVideoPayerr (idOf d) (crcOf d), (Bool.not_eq_true' _).mpr hid, pdOf_eq hxs⟩
  · cases hid : isDiscard p (idOf d) with
    | true => exact ⟨.pktDiscard (idOf d) (crcOf d), hid, pdOf_eq hxs⟩
    | false => exact ⟨.pktVideo (idOf d) (crcOf d), (Bool.not_eq_true' _).mpr hid, pdOf_eq hxs⟩

/-- The decoder gives the well-formed operation that a descriptor encodes. -/
theorem decodePd_of_encode {p : Params} {d : Desc} {i : Instr} (hwf : i.WellFormed p) (henc : encode i = .pd d) :
    decodePd p d = i := by
  have hdecode := encodedOperationsDecodeBack p i hwf
  rw [henc] at hdecode
  exact Decoded.instr.inj hdecode

/-- Settles O3: an operation word by its fields; a descriptor encodes some operation, which is the one it decodes to. -/
theorem decodedEncodingsEncodeBack : Obligations.DecodedEncodingsEncodeBack := by
  intro p e i hdec
  cases e with
  | opw w => exact wellFormed_encode_of_decodeOpw p hdec
  | pd d =>
    obtain ⟨j, hwf, henc⟩ := exists_encode_eq_pd p d
    obtain rfl : j = i := (decodePd_of_encode hwf henc).symm.trans (Decoded.instr.inj hdec)
    exact ⟨hwf, henc⟩

/-- Settles O4: fourteen closed words. -/
theorem specWordsDecodeAsWritten : Obligations.SpecWordsDecodeAsWritten := by
  unfold Obligations.SpecWordsDecodeAsWritten
  decide

/-! ### The lines of the classification (R66) -/

theorem isDiscard_iff (p : Params) (id : Half) : isDiscard p id = true ↔ id &&& p.discardMask = p.discardMatch := by
  simp [isDiscard]

/-- Two words put together from fields of the same widths are equal when their fields are. -/
theorem append_eq_append_iff {n m : Nat} {x u : BitVec n} {y v : BitVec m} : x ++ y = u ++ v ↔ x = u ∧ y = v := by
  refine ⟨fun h => ?_, fun ⟨hx, hy⟩ => by rw [hx, hy]⟩
  have hhigh := congrArg (BitVec.extractLsb' m n) h
  have hlow := congrArg (BitVec.extractLsb' 0 m) h
  simp (disch := omega) only [extract_append_high, extract_append_low, Nat.sub_self, extract_all] at hhigh hlow
  exact ⟨hhigh, hlow⟩

/-- The mask of the reference hardware keeps the two upper nibbles of the ID word. -/
theorem and_reference_mask (a b : BitVec 4) (c : Byte) :
    (a ++ b ++ c) &&& Params.reference.discardMask = a ++ b ++ 0#8 := by
  rw [show Params.reference.discardMask = BitVec.allOnes 4 ++ BitVec.allOnes 4 ++ 0#8 from rfl,
    Laws.MatchesTable.append_and, Laws.MatchesTable.append_and, BitVec.and_allOnes, BitVec.and_allOnes, BitVec.and_zero]

/-- The discard predicate of the reference hardware (00_scope.md R4). -/
theorem reference_discard_iff (id : Half) :
    id &&& Params.reference.discardMask = Params.reference.discardMatch
      ↔ id.extractLsb' 12 4 = 0x0#4 ∧ id.extractLsb' 8 4 = 0xF#4 := by
  have hid : id = id.extractLsb' 12 4 ++ id.extractLsb' 8 4 ++ id.extractLsb' 0 8 := by
    rw [extract_join id 8 4 4, extract_join id 0 (4 + 4) 8]
    exact (extract_all id).symm
  have hmasked : id &&& Params.reference.discardMask = id.extractLsb' 12 4 ++ id.extractLsb' 8 4 ++ 0#8 :=
    (congrArg (· &&& Params.reference.discardMask) hid).trans (and_reference_mask _ _ _)
  rw [hmasked, show Params.reference.discardMatch = 0x0#4 ++ 0xF#4 ++ 0#8 from rfl, append_eq_append_iff,
    append_eq_append_iff]
  exact and_iff_left rfl

/-- Settles O5: a descriptor on one of the lines is the encoding of that line's class, so it decodes to it. -/
theorem descriptorsClassifyByFirstMatch : Obligations.DescriptorsClassifyByFirstMatch := by
  intro p d xs id crc discard
  have hdiscard : discard → isDiscard p (idOf d) = true := (isDiscard_iff p (idOf d)).2
  have hvideo : ¬ discard → (!isDiscard p (idOf d)) = true := fun h =>
    (Bool.not_eq_true' _).mpr (Bool.eq_false_iff.2 (mt (isDiscard_iff p (idOf d)).1 h))
  refine ⟨fun hxs => ?_, fun hxs => ?_, fun ⟨h, hxs⟩ => ?_, fun ⟨h, hxs⟩ => ?_, fun ⟨h, hxs⟩ => ?_,
    fun ⟨h, hxs⟩ => ?_, fun hp => ?_⟩
  · exact decodePd_of_encode (i := .pktHdrErr 0#1 id crc) rfl (pdOf_eq hxs)
  · exact decodePd_of_encode (i := .pktHdrErr 1#1 id crc) rfl (pdOf_eq hxs)
  · exact decodePd_of_encode (i := .pktDiscardPayerr id crc) (hdiscard h) (pdOf_eq hxs)
  · exact decodePd_of_encode (i := .pktDiscard id crc) (hdiscard h) (pdOf_eq hxs)
  · exact decodePd_of_encode (i := .pktVideoPayerr id crc) (hvideo h) (pdOf_eq hxs)
  · exact decodePd_of_encode (i := .pktVideo id crc) (hvideo h) (pdOf_eq hxs)
  · subst hp
    exact reference_discard_iff id

/-! ### The ports of the operation words (R62) -/

/-- Settles O20: on a port that may not issue it an operation is answered ILLEGAL (`exec_foreign`). -/
theorem foreignOperationsAreIllegal : Obligations.ForeignOperationsAreIllegal := by
  intro i s h
  rcases h with ⟨hport, rfl | rfl | ⟨spf, pps, len, rfl⟩⟩ | ⟨hport, rfl | rfl | ⟨buf, off, rfl⟩⟩
  all_goals exact exec_foreign (by rw [hport]; rfl) (by simp [mayIssue])

end Sys2Proof.Machine

/-! ## The event pulses (30_encoding.md R70) -/

namespace Sys2Proof.Machine

/-- The step ends an invocation, or the operation it performs is a READ_FRAME that the cooldown answers. -/
def Ends (performed : Option Instr) (s t : State) : Prop :=
  (s.fsm = .reading ∧ t.fsm = .idle)
  ∨ (performed = some .readFrame ∧ t.outputs.resp = some .ok ∧ t.fsm = .idle)

/-- What fires in a step, in order: nothing unless it ends an invocation; then `done` with CR0 after the step, and before it what
PUBLISH fires, if a frame was completed. -/
inductive Pulses (performed : Option Instr) (s t : State) : Prop where
  | silent (hevents : t.outputs.events = []) (hseq : t.frameSeq = s.frameSeq) (hends : ¬ Ends performed s t)
  | ended (hevents : t.outputs.events = [.done (cr0 t)]) (hseq : t.frameSeq = s.frameSeq) (hends : Ends performed s t)
  | dropped (hevents : t.outputs.events = [.frameDropped, .done (cr0 t)]) (hseq : t.frameSeq = s.frameSeq)
      (hends : Ends performed s t)
  | published (hevents : t.outputs.events = [.frameAvail t.frameSeq, .done (cr0 t)]) (hseq : t.frameSeq = nextSeq s)
      (hends : Ends performed s t)

/-- Only the state machine, the sequence number and the parameters of the state before matter. -/
theorem Pulses.congr {o : Option Instr} {s s' t : State} (h : Pulses o s t) (hfsm : s'.fsm = s.fsm)
    (hseq : s'.frameSeq = s.frameSeq) (hparams : s'.params = s.params) : Pulses o s' t := by
  have hends : Ends o s' t ↔ Ends o s t := by rw [Ends, Ends, hfsm]
  have hnext : nextSeq s' = nextSeq s := by rw [nextSeq, nextSeq, hseq, hparams]
  cases h with
  | silent hevents h1 h2 => exact .silent hevents (h1.trans hseq.symm) (mt hends.1 h2)
  | ended hevents h1 h2 => exact .ended hevents (h1.trans hseq.symm) (hends.2 h2)
  | dropped hevents h1 h2 => exact .dropped hevents (h1.trans hseq.symm) (hends.2 h2)
  | published hevents h1 h2 => exact .published hevents (h1.trans hnext.symm) (hends.2 h2)

/-! ### Which steps end nothing -/

theorem not_ends_of_reading {o : Option Instr} {s t : State} (hfsm : t.fsm = .reading) : ¬ Ends o s t := by
  simp [Ends, hfsm]

/-- A step that keeps `fsm` ends nothing, unless it answers a READ_FRAME with OK. -/
theorem not_ends_of_same {o : Option Instr} {s t : State} (hfsm : t.fsm = s.fsm)
    (hread : o = some .readFrame → t.outputs.resp ≠ some .ok) : ¬ Ends o s t := by
  rintro (⟨hbefore, hafter⟩ | ⟨ho, hok, -⟩)
  · exact absurd (hbefore.symm.trans (hfsm.symm.trans hafter)) nofun
  · exact hread ho hok

/-! ### The pulses of a step -/

theorem Validation.pulses {o : Option Instr} {id : Half} {s t : State} (hv : Validation id s t)
    (hread : s.fsm = .reading) (hsilent : s.outputs.events = []) : Pulses o s t := by
  have hfire : ∀ e c : Event, s.outputs.events ++ [e] ++ [c] = [e, c] := fun e c => by rw [hsilent]; rfl
  cases hv with
  | seqMismatch | tagMismatch =>
    exact .ended ((raise_events _ _).trans (by rw [hsilent]; rfl)) rfl (.inl ⟨hread, rfl⟩)
  | restart | nextPacket | nextSegment => exact .silent hsilent rfl (not_ends_of_reading hread)
  | published => exact .published (hfire _ _) rfl (.inl ⟨hread, rfl⟩)
  | dropped => exact .dropped (hfire _ _) rfl (.inl ⟨hread, rfl⟩)

/-- Every effect starts from silent outputs, an answer's or a packet's, and only `raise` and the validation fire anything. -/
theorem Effect.pulses {i : Instr} {s t : State} (he : Effect i s t) : Pulses (some i) s t := by
  cases he with
  | cooled => exact .ended (raise_events _ _) rfl (.inr ⟨rfl, rfl, rfl⟩)
  | busError hread | firstDiscard _ _ hread | payErr _ _ hread =>
    exact .ended (raise_events _ _) rfl (.inl ⟨hread, rfl⟩)
  | stored id crc hread hslot hv => exact (hv.pulses hread rfl).congr rfl rfl rfl
  | started => exact .silent rfl rfl (not_ends_of_reading rfl)
  | answered r d hok =>
    refine .silent rfl rfl (not_ends_of_same rfl fun hi hr => ?_)
    obtain rfl : i = .readFrame := Option.some.inj hi
    exact absurd (hok (Option.some.inj hr)) (by simp)
  | ignored hpkt => exact .silent rfl rfl (not_ends_of_same rfl fun _ => nofun)
  | requested | configured | acquired | released | releaseFault => exact .silent rfl rfl (not_ends_of_same rfl nofun)

/-- The pulses of a step but RESET: those of the operation it performs, or none. -/
theorem step_pulses {s t : State} (hstep : step s = .next t) (hreset : resetIsNext s = false) :
    Pulses (performs s) s t := by
  rcases step_cases hstep with ⟨i, s', hfetch, he⟩ | hsettled
  · obtain ⟨rest, sb, rfl⟩ := fetch_instr_frame hfetch
    rw [performs_of_instr hfetch]
    exact he.pulses.congr rfl rfl rfl
  · rw [performs_of_settled hsettled]
    rcases fetch_settled_cases hsettled with ⟨-, rfl⟩ | ⟨rest, sb, p, w, now, -, rfl⟩ | ⟨rest, hin, -⟩
    · exact .silent rfl rfl (not_ends_of_same rfl nofun)
    · exact .silent rfl rfl (not_ends_of_same rfl nofun)
    · simp [resetIsNext, hin] at hreset

/-! ### When `frame_avail` and `done` fire -/

theorem succ_mod_ne {m : Nat} (hm : 2 ≤ m) (n : Nat) : (n + 1) % m ≠ n := by
  intro h
  have hdvd : m ∣ 1 := ⟨(n + 1) / m, by have := Nat.div_add_mod (n + 1) m; omega⟩
  have hle : m ≤ 1 := Nat.le_of_dvd Nat.one_pos hdvd
  omega

/-- A counter of at least one bit shows its increment. -/
theorem nextSeq_ne {s : State} (hwidth : 1 ≤ s.params.seqW) : nextSeq s ≠ s.frameSeq :=
  succ_mod_ne (Nat.pow_le_pow_right Nat.two_pos hwidth) s.frameSeq

/-- Settles O48: of the ways of `Pulses` only the publishing one fires `frame_avail`, and only it moves the number. -/
theorem frameAvailFiresWithEachIncrement : Obligations.FrameAvailFiresWithEachIncrement := by
  intro s t hwidth hstep hreset
  cases step_pulses hstep hreset with
  | silent hevents hseq | ended hevents hseq | dropped hevents hseq => simp [hevents, hseq]
  | published hevents hseq =>
    have hmoved : t.frameSeq ≠ s.frameSeq := hseq ▸ nextSeq_ne hwidth
    refine ⟨⟨fun _ => hmoved, fun _ => ⟨_, by rw [hevents]; exact .head _⟩⟩, fun q hq => ⟨?_, hseq⟩⟩
    simpa [hevents] using hq

/-- Settles O49: the ways of `Pulses` that fire `done` are those that end an invocation, and it stands last in each. -/
theorem doneFiresWhenAnInvocationEnds : Obligations.DoneFiresWhenAnInvocationEnds := by
  intro s t hstep hreset
  change ((∃ c, Event.done c ∈ t.outputs.events) ↔ Ends (performs s) s t) ∧ _
  cases step_pulses hstep hreset with
  | silent hevents _ hends => simp [hevents, hends]
  | ended hevents _ hends | dropped hevents _ hends | published hevents _ hends => simp [hevents, hends]

end Sys2Proof.Machine

/-! ## The control-port operations and the acceptance test (40_control_ops.md R80 to R84) -/

namespace Sys2Proof.Machine

/-! ### The acceptance test (R80) -/

/-- The word is of a reserved opcode, or a bit that its operation's format fixes at 0 is 1 (R62, R63, R67). -/
def Malformed (w : Word) : Prop :=
  7 ≤ (opcOf w).toNat
  ∨ (((opcOf w).toNat ≤ 2 ∨ (opcOf w).toNat = 4 ∨ (opcOf w).toNat = 5) ∧ operandBits w ≠ 0#28)
  ∨ ((opcOf w).toNat = 3 ∧ w.extractLsb' 23 5 ≠ 0#5) ∨ ((opcOf w).toNat = 6 ∧ w.extractLsb' 16 11 ≠ 0#11)

/-- The word's opcode is one that the port may not issue (R62). -/
def Misplaced (port : OpPort) (w : Word) : Prop :=
  (port = .reader ∧ 1 ≤ (opcOf w).toNat ∧ (opcOf w).toNat ≤ 3)
  ∨ (port = .control ∧ 4 ≤ (opcOf w).toNat ∧ (opcOf w).toNat ≤ 6)

/-- The decoder accepts exactly the words that are not malformed. -/
theorem exists_decodeOpw_iff (w : Word) : (∃ i, decodeOpw w = .instr i) ↔ ¬ Malformed w := by
  unfold decodeOpw
  split
  case h_8 =>
    have hreserved : 7 ≤ (opcOf w).toNat := by
      simp only [imp_false] at *
      omega
    simp [Malformed, hreserved]
  all_goals
    rename_i hopc
    simp [Malformed, hopc, ifZero_eq_instr_iff]

/-- The port may issue the operation that a word decodes to unless its opcode is misplaced there. -/
theorem mayIssue_iff_of_decodes {w : Word} {i : Instr} (h : decodeOpw w = .instr i) (port : OpPort) :
    mayIssue port i = true ↔ ¬ Misplaced port w := by
  unfold decodeOpw at h
  split at h
  case h_8 => cases h
  all_goals
    rename_i hopc
    obtain rfl := ifZero_eq_instr h
    cases port <;> simp [mayIssue, Misplaced, hopc]

/-- The state in which an offered word is judged: its input taken, its port and its time sampled (R28). -/
def offered (s : State) (port : OpPort) (now : Nat) (rest : List Input) : State :=
  { s with
    inputs := rest
    sideband := { s.sideband with port := port, now := sampled s.params now } }

section offer

variable {s : State} {port : OpPort} {w : Word} {now : Nat} {rest : List Input}
  (hin : s.inputs = .op port w now :: rest)
include hin

theorem step_of_malformed (h : Malformed w) : step s = .next ((offered s port now rest).answer .illegal) := by
  cases hdec : decodeOpw w with
  | instr i => exact absurd h ((exists_decodeOpw_iff w).1 ⟨i, hdec⟩)
  | rejected why =>
    refine step_of_settled ((fetch_op hin).trans ?_)
    simp [takeOp, hdec, offered]

/-- A misplaced word that decodes is answered by the port check, any other by the decoder. -/
theorem step_of_misplaced (h : Misplaced port w) : step s = .next ((offered s port now rest).answer .illegal) := by
  by_cases hmalformed : Malformed w
  · exact step_of_malformed hin hmalformed
  · obtain ⟨i, hdec⟩ := (exists_decodeOpw_iff w).2 hmalformed
    have hforeign : mayIssue port i = false :=
      Bool.eq_false_iff.2 fun hissue => (mayIssue_iff_of_decodes hdec port).1 hissue h
    exact (stepPerformsOfferedOperation s port w now rest i hin hdec).trans
      (exec_foreign hforeign (decodeOpw_mayIssue hdec))

end offer

/-- Settles O6: a word fails the test when it is malformed or misplaced; one that is neither decodes to an operation that the
port may issue, which the step performs. -/
theorem malformedOrMisplacedWordsAreIllegal : Obligations.MalformedOrMisplacedWordsAreIllegal := by
  intro s port w now rest hin opc illegal
  have hillegal : illegal ↔ Malformed w ∨ Misplaced port w :=
    (or_congr_right (or_assoc.symm.trans or_comm)).trans or_assoc.symm
  refine ⟨fun h => ?_, fun h => ?_⟩
  · rcases hillegal.1 h with hmalformed | hmisplaced
    · exact step_of_malformed hin hmalformed
    · exact step_of_misplaced hin hmisplaced
  · obtain ⟨hformed, hplaced⟩ := not_or.1 (mt hillegal.2 h)
    obtain ⟨i, hdec⟩ := (exists_decodeOpw_iff w).2 hformed
    exact ⟨i, hdec, (mayIssue_iff_of_decodes hdec port).2 hplaced,
      stepPerformsOfferedOperation s port w now rest i hin hdec⟩

/-! ### Entering READING (R81; 60_exceptions.md R162) -/

/-- In IDLE only a READ_FRAME that finds the window passed enters READING. -/
theorem Effect.starts {i : Instr} {s t : State} (he : Effect i s t) (hidle : s.fsm = .idle) (hread : t.fsm = .reading) :
    i = .readFrame ∧ t = startInvocation (clearRecord (s.answer .ok)) := by
  cases he with
  | started => exact ⟨rfl, rfl⟩
  | answered | ignored | requested | configured | acquired | released | releaseFault =>
    exact absurd (hidle.symm.trans hread) nofun
  | cooled => cases hread
  | busError h | firstDiscard _ _ h | stored _ _ h | payErr _ _ h => exact absurd (hidle.symm.trans h) nofun

/-- A step that performs no operation keeps `fsm` or, at RESET, goes to IDLE. -/
theorem fsm_of_settled {s t : State} (h : fetch s = .settled t) : t.fsm = s.fsm ∨ t.fsm = .idle := by
  rcases fetch_settled_cases h with ⟨-, rfl⟩ | ⟨rest, sb, p, w, now, -, rfl⟩ | ⟨rest, -, rfl⟩
  · exact .inl rfl
  · exact .inl rfl
  · exact .inr rfl

theorem outcome_of_cleared {s : State} (hcomplete : s.complete = false) (hwritten : s.written = false) :
    outcome s = 0b00#2 := by
  rw [outcome, hcomplete, hwritten]
  rfl

/-- Settles O42: `Effect.starts` names the operation and the state it leaves. -/
theorem onlyReadFrameEntersReading : Obligations.OnlyReadFrameEntersReading := by
  intro s t hstep hidle hread
  rcases step_cases hstep with ⟨i, s', hfetch, he⟩ | hsettled
  · obtain ⟨rest, sb, rfl⟩ := fetch_instr_frame hfetch
    obtain ⟨rfl, rfl⟩ := he.starts hidle hread
    exact ⟨performs_of_instr hfetch, rfl, rfl, rfl, rfl, rfl, rfl, rfl, rfl, rfl, rfl, outcome_of_cleared rfl rfl⟩
  · rcases fsm_of_settled hsettled with hsame | hreset
    · exact absurd (hidle.symm.trans (hsame.symm.trans hread)) nofun
    · exact absurd (hreset.symm.trans hread) nofun

/-! ### The rule of each operation -/

theorem mayIssue_nop (port : OpPort) : mayIssue port .nop = true := by cases port <;> rfl

theorem exec_nop (s : State) : exec .nop s = .next (s.answer .ok) := by
  unfold exec execNop
  exact checkPort_allowed _ (mayIssue_nop _)

/-- Settles O14: every port may issue NOP; a NOP word with an operand bit set is malformed. -/
theorem nopChangesNothing : Obligations.NopChangesNothing := by
  refine ⟨exec_nop, fun s port w now rest hin hopc hoperands => ?_⟩
  have hzero : (opcOf w).toNat = 0 := by rw [opcOf, hopc]; rfl
  exact step_of_malformed hin (.inr (.inl ⟨.inl (by omega), hoperands⟩))

/-- The elapsed time is the residue of the difference, which is not negative. -/
theorem natCast_elapsed (p : Params) (now t0 : Time) : (elapsed p now t0 : Int) = ((now : Int) - t0) % 2 ^ p.timeW :=
  Int.toNat_of_nonneg (Int.emod_nonneg _ (by positivity))

/-- The test READ_FRAME makes, with the elapsed time written out (R81). -/
theorem inCooldown_iff (s : State) :
    inCooldown s = true ↔
      s.resyncPending = true ∧ ((s.sideband.now : Int) - s.resyncT0) % 2 ^ s.params.timeW < s.params.cooldown := by
  rw [← natCast_elapsed, Int.ofNat_lt, inCooldown, Bool.and_eq_true, decide_eq_true_eq]

/-- Ending an invocation in IDLE writes `fsm` with the value it has. -/
theorem raise_cooling_of_idle {s : State} (hidle : s.fsm = .idle) :
    raise .cooling s = (recordCause .cooling s).emit (.done (cr0 (recordCause .cooling s))) := by
  have hsame : ({ recordCause .cooling s with fsm := .idle } : State) = recordCause .cooling s := by
    rw [← hidle, ← recordCause_fsm s .cooling]
  rw [raise, finish, hsame]

/-- Settles O15: the three cases of READ_FRAME, the window as `inCooldown_iff` says it. -/
theorem readFrameFollowsItsRule : Obligations.ReadFrameFollowsItsRule := by
  intro s hport since suppressed
  refine ⟨exec_readFrame_reading hport, fun hidle h => ?_, fun hidle h => ?_⟩
  · refine ⟨_, exec_readFrame_cooled hport hidle ((inCooldown_iff s).2 h), ?_⟩
    rw [raise_cooling_of_idle (s := clearRecord (s.answer .ok)) hidle]
    rfl
  · exact exec_readFrame_started hport hidle (Bool.eq_false_iff.2 (mt (inCooldown_iff s).1 h))

/-- Settles O16, by the two cases of RESYNC_REQ. -/
theorem resyncReqFollowsItsRule : Obligations.ResyncReqFollowsItsRule :=
  fun _ hport => ⟨exec_resyncReq_reading hport, exec_resyncReq_idle hport⟩

/-- Settles O17: the legality test is the statement's (`legalGeometry_iff`), and it decides before `fsm` does. -/
theorem cfgWriteFollowsItsRule : Obligations.CfgWriteFollowsItsRule := by
  intro spf pps len s hport legal
  have hlegal : legalGeometry s.params spf pps len = true ↔ legal := by
    rw [legalGeometry_iff, Nat.one_le_iff_ne_zero, Nat.one_le_iff_ne_zero]
    rfl
  refine ⟨fun h => ?_, fun h => ?_, fun h => ?_⟩
  · exact exec_cfgWrite_illegal hport (Bool.eq_false_iff.2 (mt hlegal.1 h))
  · exact exec_cfgWrite_reading hport (hlegal.2 h)
  · exact exec_cfgWrite_idle hport (hlegal.2 h)

end Sys2Proof.Machine

/-! ## The stream-port operations (41_packet_ops.md R100 to R110) -/

namespace Sys2Proof.Machine

/-! ### Packets that store nothing, and a failed payload transfer (R100 to R103, R105) -/

/-- Settles O21, by `exec_packet_idle`. -/
theorem packetsAreNotTakenWhileIdle : Obligations.PacketsAreNotTakenWhileIdle :=
  fun _ _ hidle hcontrol hreader => exec_packet_idle hidle ⟨hcontrol, hreader⟩

/-- A bus error changes its flag, the cause and `fsm`, and fires `done` alone. -/
theorem raise_busError_quiet (s : State) :
    raise .busError s.quiet =
      { s with
        busErr := true, cause := .busError, fsm := .idle
        outputs := { resp := none, ret := .none, events := [.done (cr0 (raise .busError s.quiet))] } } := rfl

/-- Settles O22: the packet is taken as a bus error. -/
theorem headerErrorEndsInvocation : Obligations.HeaderErrorEndsInvocation :=
  fun xsHi id crc s hread => ⟨_, exec_pktHdrErr_reading hread id crc xsHi, raise_busError_quiet s⟩

/-- Settles O23: the two cases of the first-slot test. -/
theorem discardFollowsItsRule : Obligations.DiscardFollowsItsRule :=
  fun id crc _ hread =>
    ⟨fun hfirst => ⟨_, exec_pktDiscard_first hread id crc hfirst, rfl⟩, exec_pktDiscard_later hread id crc⟩

/-- Settles O24: the packet is taken as a bus error at every slot. -/
theorem discardPayloadErrorEndsInvocation : Obligations.DiscardPayloadErrorEndsInvocation :=
  fun id crc s hread => ⟨_, exec_pktDiscardPayerr_reading hread id crc, raise_busError_quiet s⟩

/-- Byte `i` of a failed transfer is its free value `i`. -/
theorem payErrBytes_getElem {s : State} {i : Nat} (hi : i < s.cfgLen.toNat) :
    (payErrBytes s)[i]? = some (Config.payErrByte s.payErrDraw i) := by
  simp [payErrBytes, hi]

/-- Settles O25: the free values are written at the slot's address, and a bus error follows. -/
theorem videoPayloadErrorEndsInvocation : Obligations.VideoPayloadErrorEndsInvocation :=
  fun id crc s hread hslot =>
    ⟨_, exec_pktVideoPayerr_reading hread id crc hslot, rfl,
      fun _ hi => fbByte_write_inside (s := s) (a := slotAddr s) rfl (payErrBytes_getElem hi),
      sameBytesOutside_slot (payErrBytes_length s) rfl rfl⟩

/-! ### The validation of a stored packet, case by case (R104, R106, R109) -/

section validation

variable {id : Half} {s : State}

theorem validatePacket_of_wrong_seq (hseq : seqOf s.params id ≠ s.pkt.toNat) :
    validatePacket id s = raise .seqMismatch s :=
  if_pos hseq

variable (hseq : seqOf s.params id = s.pkt.toNat)
include hseq

theorem validatePacket_of_zero_tag (hidx : s.pkt.toNat = s.params.tagIdx) (hzero : tagOf s.params id = 0) :
    validatePacket id s = { s with pkt := 0#12 } := by
  rw [validatePacket, if_neg (not_not.2 hseq), if_pos ⟨hidx, hzero⟩]

theorem validatePacket_of_wrong_tag (hidx : s.pkt.toNat = s.params.tagIdx) (hzero : tagOf s.params id ≠ 0)
    (htag : tagOf s.params id ≠ s.seg.toNat) : validatePacket id s = raise .tagMismatch s := by
  rw [validatePacket, if_neg (not_not.2 hseq), if_neg fun h => hzero h.2, if_pos ⟨hidx, htag⟩]

/-- A packet with the right sequence number and, where it is examined, the right tag advances; segments count from 1, so
the right tag is not the zero tag. -/
theorem validatePacket_of_valid (hseg : 1 ≤ s.seg.toNat)
    (htag : s.pkt.toNat = s.params.tagIdx → tagOf s.params id = s.seg.toNat) : validatePacket id s = advance s := by
  have hnonzero : ¬ (s.pkt.toNat = s.params.tagIdx ∧ tagOf s.params id = 0) := fun ⟨hidx, hzero⟩ => by
    rw [htag hidx] at hzero
    omega
  rw [validatePacket, if_neg (not_not.2 hseq), if_neg hnonzero, if_neg fun h => h.2 (htag h.1)]

end validation

/-- The state in which a video packet is validated: its payload is in the expected slot, and nothing is driven yet. -/
def stored (s : State) : State := storeSlot (payloadBytes s) s.quiet

theorem exec_pktVideo_stored {s : State} (hread : s.fsm = .reading) (hslot : slotExists s = true) (id crc : Half) :
    exec (.pktVideo id crc) s = .next (validatePacket id (stored s)) :=
  exec_pktVideo_reading hread id crc hslot

/-- Settles O27: each failed check by its case of the validation. -/
theorem videoDesynchronizationFollowsItsRule : Obligations.VideoDesynchronizationFollowsItsRule := by
  intro id crc s hread hslot
  refine ⟨_, exec_pktVideo_stored hread hslot id crc, fun hseq => ?_, fun hseq hidx hzero => ?_,
    fun hseq hidx hzero htag => ?_⟩
  · rw [validatePacket_of_wrong_seq (s := stored s) hseq]
    rfl
  · rw [validatePacket_of_zero_tag (s := stored s) hseq hidx hzero]
    rfl
  · rw [validatePacket_of_wrong_tag (s := stored s) hseq hidx hzero htag]
    rfl

theorem advance_packet {s : State} (hpkt : s.pkt.toNat + 1 < s.cfgPps.toNat) :
    advance s = { s with pkt := s.pkt + 1#12 } :=
  if_pos (Nat.lt_sub_of_add_lt hpkt)

theorem advance_segment {s : State} (hpkt : s.pkt.toNat + 1 = s.cfgPps.toNat) (hseg : s.seg.toNat < s.cfgSpf.toNat) :
    advance s = { s with seg := s.seg + 1#3, pkt := 0#12 } := by
  rw [advance, if_neg (by omega), if_pos hseg]

theorem advance_complete {s : State} (hpkt : s.pkt.toNat + 1 = s.cfgPps.toNat) (hseg : s.seg = s.cfgSpf) :
    advance s = finish (publish { s with complete := true }) := by
  rw [advance, if_neg (by omega), if_neg (by rw [hseg]; exact Nat.lt_irrefl _)]

/-- Settles O28: a valid packet advances, to the next slot or, from the last one, to PUBLISH. -/
theorem validVideoAdvancesOrCompletes : Obligations.ValidVideoAdvancesOrCompletes := by
  intro id crc s hread hslot hseq htag
  obtain ⟨-, hseg, -, -⟩ := (slotExists_iff s).1 hslot
  have hexec := exec_pktVideo_stored hread hslot id crc
  rw [validatePacket_of_valid (s := stored s) hseq hseg htag] at hexec
  refine ⟨_, hexec, fun hpkt => ?_, fun hpkt hlast => ?_, fun hpkt hlast hfree => ?_, fun hpkt hlast hheld => ?_⟩
  · rw [advance_packet (s := stored s) hpkt]
    rfl
  · rw [advance_segment (s := stored s) hpkt hlast]
    rfl
  · rw [advance_complete (s := stored s) hpkt hlast, publish_free (s := { stored s with complete := true }) hfree]
    rfl
  · rw [advance_complete (s := stored s) hpkt hlast, publish_held (s := { stored s with complete := true }) hheld]
    rfl

/-! ### A frame's worth of valid packets (R110) -/

/-- Packets 0 to `m - 1` stand one after the other, `cfg_len` bytes each, in the buffer that is the write buffer of `s`. -/
def HoldsPackets (s : State) (pay : Nat → Payload) (m : Nat) (t : State) : Prop :=
  ∀ k, k < m → ∀ (j : Nat) (h : j < Config.maxLen), j < s.cfgLen.toNat →
    t.fbByte (linear s.params s.wrIdx (k * s.cfgLen.toNat + j)) = (pay k)[j]

/-- The ID word is that of a valid video packet for slot number `k` of the frame (R72, R104). -/
def ValidId (s : State) (k : Nat) (id : Half) : Prop :=
  isDiscard s.params id = false ∧ seqOf s.params id = k % s.cfgPps.toNat
  ∧ (k % s.cfgPps.toNat = s.params.tagIdx → tagOf s.params id = k / s.cfgPps.toNat + 1)

/-- The invocation that started at `s` has come to slot number `m`, and the packets before it are stored. -/
structure Filling (s : State) (pay : Nat → Payload) (m : Nat) (t : State) : Prop where
  params : t.params = s.params
  geometry : SameGeometry s t
  arbiter : SameArbiter s t
  reading : t.fsm = .reading
  slot : slotExists t = true
  number : (t.seg.toNat - 1) * s.cfgPps.toNat + t.pkt.toNat = m
  bytes : HoldsPackets s pay m t

/-- The invocation that started at `s` has completed its frame, and published it if no reader held the other buffer. -/
structure Filled (s : State) (pay : Nat → Payload) (t : State) : Prop where
  complete : t.complete = true
  idle : t.fsm = .idle
  wrIdx : t.wrIdx = if s.rdCnt = 0 then ~~~s.wrIdx else s.wrIdx
  frameSeq : t.frameSeq = if s.rdCnt = 0 then (s.frameSeq + 1) % 2 ^ s.params.seqW else s.frameSeq
  bytes : HoldsPackets s pay (s.cfgSpf.toNat * s.cfgPps.toNat) t

section filling

variable {s t : State} {pay : Nat → Payload} {m : Nat} (h : Filling s pay m t)
include h

/-- The segment and the packet index are the quotient and the remainder of the slot number. -/
theorem Filling.position :
    m / s.cfgPps.toNat + 1 = t.seg.toNat ∧ m % s.cfgPps.toNat = t.pkt.toNat := by
  obtain ⟨-, hpps, -⟩ := h.geometry
  obtain ⟨-, hseg, -, hpkt⟩ := (slotExists_iff t).1 h.slot
  rw [hpps] at hpkt
  have hnumber : t.pkt.toNat + s.cfgPps.toNat * (t.seg.toNat - 1) = m := by
    rw [Nat.mul_comm, Nat.add_comm, h.number]
  obtain ⟨hdiv, hmod⟩ := (Nat.div_mod_unique (Nat.zero_lt_of_lt hpkt)).2 ⟨hnumber, hpkt⟩
  exact ⟨by omega, hmod⟩

/-- The slot numbers stay below `cfg_spf × cfg_pps`. -/
theorem Filling.lt : m < s.cfgSpf.toNat * s.cfgPps.toNat := by
  obtain ⟨-, hpps, hspf⟩ := h.geometry
  obtain ⟨-, -, hseg, hpkt⟩ := (slotExists_iff t).1 h.slot
  rw [hpps] at hpkt
  rw [hspf] at hseg
  obtain ⟨hquotient, -⟩ := h.position
  exact Nat.lt_mul_of_div_lt (by omega) (Nat.zero_lt_of_lt hpkt)

/-- Slot number `m` begins `m × cfg_len` bytes into the buffer. -/
theorem Filling.slotAddr_eq : slotAddr t = linear s.params s.wrIdx (m * s.cfgLen.toNat) := by
  obtain ⟨hlen, hpps, -⟩ := h.geometry
  obtain ⟨hindex, -⟩ := h.arbiter
  rw [slotAddr, slotOffset, h.params, hindex, hlen, hpps, h.number]

/-- Storing packet `m` in its slot leaves the earlier ones alone. -/
theorem Filling.holds_succ {u : State} {id crc : Half} (hpay : t.sideband.payload = pay m)
    (hexec : exec (.pktVideo id crc) t = .next u) : HoldsPackets s pay (m + 1) u := by
  obtain ⟨v, hv, -, hinside, houtside⟩ := videoStoresPayloadInExpectedSlot id crc t h.reading h.slot
  obtain rfl : u = v := Host.Outcome.next.inj (hexec.symm.trans hv)
  rw [show t.wrIdx.toNat * t.params.frameMax + ((t.seg.toNat - 1) * t.cfgPps.toNat + t.pkt.toNat) * t.cfgLen.toNat
    = slotAddr t from rfl, h.slotAddr_eq] at hinside
  obtain ⟨hlen, -, -⟩ := h.geometry
  rw [h.slotAddr_eq, hlen] at houtside
  intro k hk j hj hjlen
  rcases Nat.lt_succ_iff_lt_or_eq.1 hk with hearlier | rfl
  · have hbelow : (k + 1) * s.cfgLen.toNat ≤ m * s.cfgLen.toNat := Nat.mul_le_mul_right _ hearlier
    rw [Nat.succ_mul] at hbelow
    rw [houtside _ (.inl (by rw [linear, linear]; omega))]
    exact h.bytes k hearlier j hj hjlen
  · have hbyte := hinside j hj (by rwa [hlen])
    rw [linear, ← Nat.add_assoc, ← hpay]
    exact hbyte

/-- The slot may move to the next one of the slot space once its packet is stored. -/
theorem Filling.move {fb : Memory} {seg : SegIdx} {pkt : PktIdx} {out : Outputs} (hseg1 : 1 ≤ seg.toNat)
    (hseg2 : seg.toNat ≤ t.cfgSpf.toNat) (hpkt : pkt.toNat < t.cfgPps.toNat)
    (hnumber : (seg.toNat - 1) * t.cfgPps.toNat + pkt.toNat = m + 1)
    (hbytes : HoldsPackets s pay (m + 1)
      { t with fb := fb, written := true, seg := seg, pkt := pkt, outputs := out }) :
    Filling s pay (m + 1) { t with fb := fb, written := true, seg := seg, pkt := pkt, outputs := out } := by
  obtain ⟨-, hpps, -⟩ := h.geometry
  obtain ⟨hlegal, -⟩ := (slotExists_iff t).1 h.slot
  rw [hpps] at hnumber
  exact { h with
    slot := (slotExists_iff _).2 ⟨hlegal, hseg1, hseg2, hpkt⟩
    number := hnumber
    bytes := hbytes }

/-- After the last packet of a segment, `seg` segments of `cfg_pps` packets are done. -/
theorem Filling.number_of_last (hlast : t.pkt.toNat + 1 = t.cfgPps.toNat) :
    t.seg.toNat * t.cfgPps.toNat = m + 1 := by
  obtain ⟨-, hpps, -⟩ := h.geometry
  obtain ⟨-, hseg, -, -⟩ := (slotExists_iff t).1 h.slot
  calc t.seg.toNat * t.cfgPps.toNat
      = (t.seg.toNat - 1) * t.cfgPps.toNat + t.cfgPps.toNat := by
        rw [← Nat.succ_mul, Nat.succ_eq_add_one, Nat.sub_add_cancel hseg]
    _ = (t.seg.toNat - 1) * t.cfgPps.toNat + t.pkt.toNat + 1 := by rw [← hlast, Nat.add_assoc]
    _ = m + 1 := by rw [hpps, h.number]

/-- The packet that is due moves the invocation to the next slot, or completes the frame from the last one. -/
theorem Filling.exec_video {id : Half} (crc : Half) (hpay : t.sideband.payload = pay m) (hvalid : ValidId s m id) :
    ∃ u, exec (.pktVideo id crc) t = .next u ∧ u.inputs = t.inputs
      ∧ (Filling s pay (m + 1) u ∨ (m + 1 = s.cfgSpf.toNat * s.cfgPps.toNat ∧ Filled s pay u)) := by
  obtain ⟨hquotient, hremainder⟩ := h.position
  obtain ⟨-, hpps, hspf⟩ := h.geometry
  obtain ⟨hindex, hreaders, hsequence, -⟩ := h.arbiter
  obtain ⟨-, hseg1, hseg2, hpkt⟩ := (slotExists_iff t).1 h.slot
  obtain ⟨-, hseq, htag⟩ := hvalid
  rw [← h.params, hremainder] at hseq
  rw [← h.params, hremainder, hquotient] at htag
  obtain ⟨u, hexec, hpacket, hsegment, hpublished, hdropped⟩ :=
    validVideoAdvancesOrCompletes id crc t h.reading h.slot hseq htag
  obtain ⟨-, hinputs, -, -⟩ := (exec_effect hexec).sameInputs
  have hbytes := h.holds_succ hpay hexec
  refine ⟨u, hexec, hinputs, ?_⟩
  rcases Nat.lt_or_eq_of_le (Nat.succ_le_of_lt hpkt) with hmore | hlast
  · have hsucc : (t.pkt + 1#12).toNat = t.pkt.toNat + 1 := by bv_omega
    rw [hpacket hmore] at hbytes ⊢
    exact .inl (h.move hseg1 hseg2 (by omega) (by rw [hsucc, ← Nat.add_assoc, hpps, h.number]) hbytes)
  · have hnumber := h.number_of_last hlast
    rcases Nat.lt_or_eq_of_le hseg2 with hmore | hfinal
    · have hsucc : (t.seg + 1#3).toNat = t.seg.toNat + 1 := by bv_omega
      rw [hsegment hlast hmore] at hbytes ⊢
      exact .inl (h.move (by omega) (by omega) (Nat.zero_lt_of_lt hpkt)
        (by rw [hsucc, Nat.add_sub_cancel]; exact hnumber) hbytes)
    · rw [hfinal, hspf, hpps] at hnumber
      rw [← hnumber] at hbytes
      refine .inr ⟨hnumber.symm, ?_⟩
      have hseg : t.seg = t.cfgSpf := BitVec.eq_of_toNat_eq hfinal
      by_cases hfree : t.rdCnt = 0
      · rw [hpublished hlast hseg hfree] at hbytes ⊢
        rw [hreaders] at hfree
        exact ⟨rfl, rfl, by simp [hfree, hindex], by simp [hfree, hsequence, h.params], hbytes⟩
      · rw [hdropped hlast hseg hfree] at hbytes ⊢
        rw [hreaders] at hfree
        exact ⟨rfl, rfl, by simp [hfree, hindex], by simp [hfree, hsequence], hbytes⟩

end filling

/-- A delivered video packet is performed with its payload and time sampled. -/
theorem step_video {s : State} {id crc : Half} {payload : Payload} {now : Nat} {rest : List Input}
    (hin : s.inputs = .packet (0#2 ++ id ++ crc) payload now :: rest) (hvideo : isDiscard s.params id = false) :
    step s = exec (.pktVideo id crc)
      { s with
        inputs := rest
        sideband := { s.sideband with now := now % 2 ^ s.params.timeW, payload := payload } } :=
  stepPerformsDeliveredPacket s _ payload now rest _ hin
    (encodedOperationsDecodeBack s.params (.pktVideo id crc) ((Bool.not_eq_true' _).mpr hvideo))

theorem runSteps_succ {s t : State} (h : step s = .next t) (k : Nat) : runSteps (k + 1) s = runSteps k t := by
  simp [runSteps, h]

/-- Packet `k` of a stream, with no transfer failed. -/
def streamPacket (id crc : Nat → Half) (pay : Nat → Payload) (now : Nat → Nat) (k : Nat) : Input :=
  .packet (0#2 ++ id k ++ crc k) (pay k) (now k)

/-- From slot number `m` the `j` packets that are left complete the frame. -/
theorem Filling.run {s : State} {id crc : Nat → Half} {pay : Nat → Payload} {now : Nat → Nat} {rest : List Input}
    (hvalid : ∀ k, k < s.cfgSpf.toNat * s.cfgPps.toNat → ValidId s k (id k)) {j m : Nat} {t : State}
    (h : Filling s pay m t) (hleft : m + j = s.cfgSpf.toNat * s.cfgPps.toNat)
    (hin : t.inputs = (List.range' m j).map (streamPacket id crc pay now) ++ rest) :
    ∃ u, runSteps j t = .next u ∧ u.inputs = rest ∧ Filled s pay u := by
  induction j generalizing m t with
  | zero => exact absurd hleft (Nat.ne_of_lt h.lt)
  | succ j ih =>
    rw [List.range'_succ, List.map_cons, List.cons_append] at hin
    obtain ⟨hvideo, -⟩ := hvalid m h.lt
    have hstep := step_video hin (h.params ▸ hvideo)
    have hdelivered : Filling s pay m
        { t with
          inputs := (List.range' (m + 1) j).map (streamPacket id crc pay now) ++ rest
          sideband := { t.sideband with now := now m % 2 ^ t.params.timeW, payload := pay m } } := { h with }
    obtain ⟨u, hexec, hinputs, hnext | ⟨hlast, hfilled⟩⟩ :=
      hdelivered.exec_video (crc m) rfl (hvalid m h.lt)
    · rw [runSteps_succ (hstep.trans hexec)]
      exact ih hnext (by omega) hinputs
    · obtain rfl : j = 0 := by omega
      exact ⟨u, runSteps_succ (hstep.trans hexec) 0, hinputs, hfilled⟩

/-- Settles O55: the state is that of slot number 0 with no packet stored, and `Filling.run` takes it to the end. -/
theorem validStreamFillsTheFrame : Obligations.ValidStreamFillsTheFrame := by
  intro s id crc pay now rest P n hlegal hread hseg hpkt hvalid hin
  obtain ⟨-, hpps, -, hspf, -⟩ := (legalGeometry_iff _ _ _ _).1 hlegal
  have hstart : Filling s pay 0 s :=
    { params := rfl
      geometry := ⟨rfl, rfl, rfl⟩
      arbiter := ⟨rfl, rfl, rfl, rfl⟩
      reading := hread
      slot := (slotExists_iff s).2 (by rw [hseg, hpkt]; exact ⟨hlegal, Nat.le_refl 1, hspf, hpps⟩)
      number := by simp [hseg, hpkt]
      bytes := nofun }
  rw [List.range_eq_range'] at hin
  obtain ⟨t, hrun, hinputs, hfilled⟩ := hstart.run hvalid (Nat.zero_add n) hin
  exact ⟨t, hrun, hfilled.complete, hfilled.idle, hinputs, hfilled.wrIdx, hfilled.frameSeq, hfilled.bytes⟩

end Sys2Proof.Machine

/-! ## The reader-port operations and the reader count (42_arbiter_ops.md R130 to R136) -/

namespace Sys2Proof.Machine

/-! ### The rule of each operation -/

/-- Settles O31, by the two cases of RD_ACQUIRE. -/
theorem acquireFollowsItsRule : Obligations.AcquireFollowsItsRule :=
  fun _ hport => ⟨exec_rdAcquire_free hport, exec_rdAcquire_full hport⟩

/-- Settles O32, by the two cases of RD_RELEASE. -/
theorem releaseFollowsItsRule : Obligations.ReleaseFollowsItsRule :=
  fun _ hport => ⟨exec_rdRelease_held hport, exec_rdRelease_zero hport⟩

theorem fbByte_of_listed {s : State} {addr : Nat} {b : Byte} (h : s.fb.read addr = some b) : s.fbByte addr = b := by
  rw [State.fbByte, h, Option.getD_some]

theorem fbByte_of_unlisted {s : State} {addr : Nat} (h : s.fb.read addr = none) :
    s.fbByte addr = Config.unwrittenByte s.fbDraw addr := by
  rw [State.fbByte, h, Option.getD_none]

/-- Settles O33: the byte answered is `fbByte` at the linear address, listed or not. -/
theorem fbReadFollowsItsRule : Obligations.FbReadFollowsItsRule := by
  intro buf off s hport addr
  refine ⟨exec_fbRead_beyond hport, fun hoff b hlisted => ?_, fun hoff hunlisted => ?_⟩
  · rw [exec_fbRead_within hport hoff, ← fbByte_of_listed hlisted]
    rfl
  · rw [exec_fbRead_within hport hoff, ← fbByte_of_unlisted hunlisted]
    rfl

/-! ### The frame -/

/-- Settles O34: an answer changes the outputs alone, a grant or a release the count beside them, and a release too many
`arb_fault`. -/
theorem readerOperationsFrame : Obligations.ReaderOperationsFrame := by
  intro i s t hi hexec
  have he := exec_effect hexec
  have hin := he.sameInputs
  cases he with
  | answered =>
    exact ⟨⟨rfl, rfl, rfl⟩, ⟨rfl, rfl, rfl⟩, ⟨rfl, rfl, rfl, rfl, rfl, rfl, rfl⟩, ⟨rfl, rfl⟩, fun _ => rfl, hin, rfl, rfl,
      rfl, fun _ => rfl, fun _ => rfl⟩
  | acquired | released =>
    exact ⟨⟨rfl, rfl, rfl⟩, ⟨rfl, rfl, rfl⟩, ⟨rfl, rfl, rfl, rfl, rfl, rfl, rfl⟩, ⟨rfl, rfl⟩, fun _ => rfl, hin, rfl, rfl,
      rfl, fun _ => rfl, nofun⟩
  | releaseFault =>
    exact ⟨⟨rfl, rfl, rfl⟩, ⟨rfl, rfl, rfl⟩, ⟨rfl, rfl, rfl, rfl, rfl, rfl, rfl⟩, ⟨rfl, rfl⟩, fun _ => rfl, hin, rfl, rfl,
      rfl, fun hne => absurd rfl hne, fun _ => rfl⟩
  | ignored hpkt => rcases hi with rfl | rfl | ⟨buf, off, rfl⟩ <;> simp [mayIssue] at hpkt
  | busError hread hpkt => rcases hi with rfl | rfl | ⟨buf, off, rfl⟩ <;> simp at hpkt
  | cooled | started | requested | configured | firstDiscard | stored | payErr => simp at hi

/-! ### What the reader count can steer (R133, R136)

Only PUBLISH reads the count on the producer's side. So two runs of one operation that differ in the count are compared with
the elements that PUBLISH writes, the count itself and the events blanked out. -/

/-- `s` with the reader count, what PUBLISH writes (`dropped`, `wr_idx`, `frame_seq`) and the events blanked out. -/
def State.besidePublish (s : State) : State :=
  { s with rdCnt := 0, dropped := false, wrIdx := 0#1, frameSeq := 0, outputs := { s.outputs with events := [] } }

/-- PUBLISH writes nothing else, whichever way the count sends it. -/
theorem publish_besidePublish (s : State) : (publish s).besidePublish = s.besidePublish := by
  by_cases hfree : s.rdCnt = 0
  · rw [publish_free hfree]
    rfl
  · rw [publish_held hfree]
    rfl

/-- Finish writes `fsm`, and an event that is blanked out. -/
theorem finish_besidePublish (s : State) : (finish s).besidePublish = { s.besidePublish with fsm := .idle } := rfl

/-- `s` with `c` readers. -/
def State.withReaders (s : State) (c : RdCount) : State := { s with rdCnt := c }

/-- The tests of Advance do not read the count, and its one PUBLISH is blanked out. -/
theorem advance_withReaders (s : State) (c : RdCount) :
    (advance (s.withReaders c)).besidePublish = (advance s).besidePublish := by
  simp only [advance, apply_ite State.besidePublish, finish_besidePublish, publish_besidePublish]
  rfl

/-- The checks of a stored packet do not read the count, and only Advance goes on to PUBLISH. -/
theorem validatePacket_withReaders (id : Half) (s : State) (c : RdCount) :
    (validatePacket id (s.withReaders c)).besidePublish = (validatePacket id s).besidePublish := by
  simp only [validatePacket, apply_ite State.besidePublish, advance_withReaders]
  rfl

/-- A result with its next state, if it has one, compared beside the publish. -/
def besidePublish : Result → Result
  | .next t => .next t.besidePublish
  | .fault r => .fault r
  | .refused r => .refused r

/-- At `s` with `c` readers the rule answers what it answers at `s`, beside the publish. -/
def Unsteered (c : RdCount) (rule : State → Result) (s : State) : Prop :=
  besidePublish (rule (s.withReaders c)) = besidePublish (rule s)

section unsteered

variable {c : RdCount} {rule rule' : State → Result} {s : State}

theorem Unsteered.checkPort (i : Instr) (h : Unsteered c rule s) :
    Unsteered c (fun s => Machine.checkPort i s rule) s := by
  cases hport : mayIssue s.sideband.port i with
  | false =>
    rw [Unsteered, checkPort_foreign rule hport, checkPort_foreign (s := s.withReaders c) rule hport]
    rfl
  | true =>
    rw [Unsteered, checkPort_allowed rule hport, checkPort_allowed (s := s.withReaders c) rule hport]
    exact h

theorem Unsteered.takePacket (h : Unsteered c rule s.quiet) : Unsteered c (fun s => Machine.takePacket s rule) s := by
  cases hfsm : s.fsm with
  | idle =>
    rw [Unsteered, takePacket_idle rule hfsm, takePacket_idle (s := s.withReaders c) rule hfsm]
    rfl
  | reading =>
    rw [Unsteered, takePacket_reading rule hfsm, takePacket_reading (s := s.withReaders c) rule hfsm]
    exact h

/-- A test that does not read the count chooses between two unsteered rules. -/
theorem Unsteered.ite {P : State → Prop} [DecidablePred P] (hP : P (s.withReaders c) ↔ P s) (h : Unsteered c rule s)
    (h' : Unsteered c rule' s) : Unsteered c (fun s => if P s then rule s else rule' s) s := by
  by_cases hs : P s
  · simp only [Unsteered, if_pos hs, if_pos (hP.2 hs)]
    exact h
  · simp only [Unsteered, if_neg hs, if_neg (mt hP.1 hs)]
    exact h'

end unsteered

/-- Every control and packet operation answers the same, beside the publish, whatever the reader count: the port check, the
taking of a packet and the operations' own tests do not read it, and the validation of a stored packet is
`validatePacket_withReaders`. -/
theorem exec_unsteered {i : Instr} (hacquire : i ≠ .rdAcquire) (hrelease : i ≠ .rdRelease)
    (hread : ∀ buf off, i ≠ .fbRead buf off) (c : RdCount) (s : State) : Unsteered c (exec i) s := by
  cases i with
  | nop => exact .checkPort .nop rfl
  | readFrame => exact .checkPort .readFrame (.ite .rfl rfl (.ite .rfl rfl rfl))
  | resyncReq => exact .checkPort .resyncReq (.ite .rfl rfl rfl)
  | cfgWrite spf pps len => exact .checkPort (.cfgWrite spf pps len) (.ite .rfl (.ite .rfl rfl rfl) rfl)
  | pktHdrErr xsHi id crc =>
    change Unsteered c (execPktHdrErr xsHi id crc) s
    exact .takePacket rfl
  | pktDiscard id crc =>
    change Unsteered c (execPktDiscard id crc) s
    exact .takePacket (.ite .rfl rfl rfl)
  | pktDiscardPayerr id crc =>
    change Unsteered c (execPktDiscardPayerr id crc) s
    exact .takePacket rfl
  | pktVideo id crc =>
    have hvalidation := validatePacket_withReaders id (stored s) c
    change Unsteered c (execPktVideo id crc) s
    exact .takePacket (.ite .rfl (congrArg Host.Outcome.next hvalidation) rfl)
  | pktVideoPayerr id crc =>
    change Unsteered c (execPktVideoPayerr id crc) s
    exact .takePacket (.ite .rfl rfl rfl)
  | rdAcquire => exact absurd rfl hacquire
  | rdRelease => exact absurd rfl hrelease
  | fbRead buf off => exact absurd rfl (hread buf off)

/-- A result that agrees beside the publish with a next state is a next state that agrees with it. -/
theorem exists_next_of_besidePublish {r : Result} {t : State} (h : besidePublish r = besidePublish (.next t)) :
    ∃ u, r = .next u ∧ u.besidePublish = t.besidePublish := by
  cases r with
  | next u => exact ⟨u, rfl, Host.Outcome.next.inj h⟩
  | fault => cases h
  | refused => cases h

/-- No operation but RD_ACQUIRE and RD_RELEASE changes the reader count. -/
theorem rdCnt_of_exec {i : Instr} {s t : State} (hexec : exec i s = .next t) (hacquire : i ≠ .rdAcquire)
    (hrelease : i ≠ .rdRelease) : t.rdCnt = s.rdCnt := by
  rcases (exec_effect hexec).rdCnt with ⟨h, -⟩ | ⟨h, -⟩ | ⟨-, hsame⟩
  · exact absurd h hacquire
  · exact absurd h hrelease
  · exact hsame

/-- Settles O51: the other run agrees beside the publish (`exec_unsteered`), element by element, and keeps its own count. -/
theorem readerCountNeverSteersTheProducer : Obligations.ReaderCountNeverSteersTheProducer := by
  intro i s c hacquire hrelease hread t hexec
  have hunsteered := exec_unsteered hacquire hrelease hread c s
  rw [Unsteered, hexec] at hunsteered
  obtain ⟨u, hexec', h⟩ := exists_next_of_besidePublish hunsteered
  have hfield {α : Type} (f : State → α) : f u.besidePublish = f t.besidePublish := congrArg f h
  have hbytes : SameBytes t u := fbByte_congr (hfield State.fb) (hfield State.fbDraw)
  exact ⟨u, hexec', ⟨hfield State.cfgLen, hfield State.cfgPps, hfield State.cfgSpf⟩,
    ⟨hfield State.fsm, hfield State.seg, hfield State.pkt⟩, ⟨hfield State.resyncPending, hfield State.resyncT0⟩, hbytes,
    hfield State.written, hfield State.complete, hfield State.readErr, hfield State.busErr, hfield State.cooling,
    hfield State.cause, hfield State.arbFault, hfield (·.outputs.resp), rdCnt_of_exec hexec' hacquire hrelease⟩

end Sys2Proof.Machine

/-! ## Conditions: no step stops, and the record each ending leaves (60_exceptions.md R150, R161) -/

namespace Sys2Proof.Machine

/-! ### Every step completes -/

/-- While READING the expected slot exists (R33 items 4 and 5). -/
theorem State.Inv.slotExists {s : State} (h : s.Inv) (hread : s.fsm = .reading) : slotExists s = true :=
  (slotExists_iff s).2 ⟨h.geometryIsLegal, h.readingHasSlot hread⟩

/-- The result is a next state: neither a fault nor a refusal. -/
def Completes (r : Result) : Prop := ∃ t, r = .next t

theorem completes_next (t : State) : Completes (.next t) := ⟨t, rfl⟩

theorem Completes.ite {P : Prop} [Decidable P] {r r' : Result} (h : Completes r) (h' : Completes r') :
    Completes (if P then r else r') := by
  by_cases hP : P
  · rwa [if_pos hP]
  · rwa [if_neg hP]

theorem Completes.checkPort {i : Instr} {s : State} {rule : State → Result} (h : Completes (rule s)) :
    Completes (Machine.checkPort i s rule) :=
  h.ite (completes_next _)

/-- A packet that is not taken completes; one that is taken does if its rule does in READING. -/
theorem completes_takePacket {s : State} {rule : State → Result} (h : s.fsm = .reading → Completes (rule s.quiet)) :
    Completes (takePacket s rule) := by
  cases hfsm : s.fsm with
  | idle => exact ⟨_, takePacket_idle rule hfsm⟩
  | reading =>
    rw [takePacket_reading rule hfsm]
    exact h hfsm

/-- Only the two classes that store can stop, and only in READING without a slot to store to. -/
theorem exec_completes {s : State} (hslot : s.fsm = .reading → slotExists s = true) (i : Instr) :
    Completes (exec i s) := by
  cases i with
  | nop =>
    unfold exec execNop
    exact .checkPort (completes_next _)
  | readFrame =>
    unfold exec execReadFrame
    exact .checkPort (.ite (completes_next _) (.ite (completes_next _) (completes_next _)))
  | resyncReq =>
    unfold exec execResyncReq
    exact .checkPort (.ite (completes_next _) (completes_next _))
  | cfgWrite spf pps len =>
    unfold exec execCfgWrite
    exact .checkPort (.ite (.ite (completes_next _) (completes_next _)) (completes_next _))
  | rdAcquire =>
    unfold exec execRdAcquire
    exact .checkPort (.ite (completes_next _) (completes_next _))
  | rdRelease =>
    unfold exec execRdRelease
    exact .checkPort (.ite (completes_next _) (completes_next _))
  | fbRead buf off =>
    unfold exec execFbRead
    exact .checkPort (.ite (completes_next _) (completes_next _))
  | pktHdrErr xsHi id crc =>
    unfold exec execPktHdrErr
    exact completes_takePacket fun _ => completes_next _
  | pktDiscard id crc =>
    unfold exec execPktDiscard
    exact completes_takePacket fun _ => .ite (completes_next _) (completes_next _)
  | pktDiscardPayerr id crc =>
    unfold exec execPktDiscardPayerr
    exact completes_takePacket fun _ => completes_next _
  | pktVideo id crc =>
    unfold exec execPktVideo
    exact completes_takePacket fun hread => ⟨_, if_pos (hslot hread)⟩
  | pktVideoPayerr id crc =>
    unfold exec execPktVideoPayerr
    exact completes_takePacket fun hread => ⟨_, if_pos (hslot hread)⟩

/-- Settles O38: the state with the input taken has the invariants too, so in READING its slot exists. -/
theorem invariantStatesAlwaysStep : Obligations.InvariantStatesAlwaysStep := by
  intro s h
  have htaken := fetch_inv h
  cases hfetch : fetch s with
  | instr i s' =>
    rw [hfetch] at htaken
    rw [step_of_instr hfetch]
    exact exec_completes htaken.slotExists i
  | settled s' => exact ⟨s', step_of_settled hfetch⟩

/-! ### The records of the condition table (R150) -/

/-- The frame was completed: COMPLETE, no cause, no request. -/
def CompletionRecord (t : State) : Prop :=
  t.cause = .none ∧ outcome t = 0b11#2 ∧ t.resyncPending = false

/-- FIRST_DISCARD of an invocation that stood at `s`: nothing is stored, and slot `(1, 0)` is still the expected one. -/
def FirstDiscardRecord (s t : State) : Prop :=
  t.cause = .firstDiscard ∧ t.seg = 1#3 ∧ t.pkt = 0#12 ∧ t.written = s.written ∧ t.complete = false
    ∧ t.resyncPending = false

/-- SEQ_MISMATCH or TAG_MISMATCH: ABORTED, with a request at the sampled time. -/
def DesyncRecord (p : Params) (t : State) : Prop :=
  (t.cause = .seqMismatch ∨ t.cause = .tagMismatch) ∧ t.readErr = true ∧ outcome t = 0b01#2
    ∧ t.resyncPending = true ∧ t.resyncT0 = t.sideband.now ∧ (t.cause = .tagMismatch → t.pkt.toNat = p.tagIdx)

/-- BUS_ERROR: an incomplete frame and no request. -/
def BusErrorRecord (t : State) : Prop :=
  t.cause = .busError ∧ t.busErr = true ∧ t.complete = false ∧ t.resyncPending = false

theorem outcome_of_completed {s : State} (hcomplete : s.complete = true) (hwritten : s.written = true) :
    outcome s = 0b11#2 := by
  rw [outcome, hcomplete, hwritten]
  rfl

theorem outcome_of_aborted {s : State} (hcomplete : s.complete = false) (hwritten : s.written = true) :
    outcome s = 0b01#2 := by
  rw [outcome, hcomplete, hwritten]
  rfl

/-- A bus error while READING: the invariants keep the rest of the record clean. -/
theorem State.Inv.busErrorRecord {s : State} (h : s.Inv) (hread : s.fsm = .reading) :
    BusErrorRecord (raise .busError s) := by
  obtain ⟨-, hcomplete, -⟩ := h.readingIsClean hread
  exact ⟨rfl, rfl, hcomplete, h.readingHasNoResync hread⟩

theorem State.Inv.firstDiscardRecord {s : State} (h : s.Inv) (hread : s.fsm = .reading)
    (hfirst : s.seg = 1#3 ∧ s.pkt = 0#12) : FirstDiscardRecord s (raise .firstDiscard s) := by
  obtain ⟨-, hcomplete, -⟩ := h.readingIsClean hread
  exact ⟨rfl, hfirst.1, hfirst.2, rfl, hcomplete, h.readingHasNoResync hread⟩

/-- A validation that ends the invocation completes the frame or finds a desynchronization. -/
theorem Validation.record {id : Half} {s t : State} (hv : Validation id s t) (h : s.Inv) (hread : s.fsm = .reading)
    (hwritten : s.written = true) (hidle : t.fsm = .idle) : CompletionRecord t ∨ DesyncRecord s.params t := by
  obtain ⟨hcause, hcomplete, -⟩ := h.readingIsClean hread
  have hnoResync := h.readingHasNoResync hread
  cases hv with
  | seqMismatch => exact .inr ⟨.inl rfl, rfl, outcome_of_aborted hcomplete hwritten, rfl, rfl, nofun⟩
  | tagMismatch _ hidx => exact .inr ⟨.inr rfl, rfl, outcome_of_aborted hcomplete hwritten, rfl, rfl, fun _ => hidx⟩
  | published | dropped => exact .inl ⟨hcause, outcome_of_completed rfl hwritten, hnoResync⟩
  | restart | nextPacket | nextSegment => exact absurd (hread.symm.trans hidle) nofun

/-- An operation that ends the invocation is a packet, and it leaves one of the four records. -/
theorem Effect.record {i : Instr} {s t : State} (he : Effect i s t) (h : s.Inv) (hread : s.fsm = .reading)
    (hidle : t.fsm = .idle) :
    CompletionRecord t ∨ FirstDiscardRecord s t ∨ DesyncRecord s.params t ∨ BusErrorRecord t := by
  cases he with
  | stored id crc _ hslot hv =>
    have hstored := h.quiet.storeSlot hread hslot (payloadBytes_length s)
    exact (hv.record hstored hread rfl hidle).imp_right fun hdesync => .inr (.inl hdesync)
  | firstDiscard id crc _ hfirst => exact .inr (.inl (h.quiet.firstDiscardRecord hread hfirst))
  | busError => exact .inr (.inr (.inr (h.quiet.busErrorRecord hread)))
  | payErr id crc _ hslot =>
    have hstored := (h.quiet.storeSlot hread hslot (payErrBytes_length s)).drawPayErr (s.payErrDraw + 1)
    exact .inr (.inr (.inr (hstored.busErrorRecord hread)))
  | answered | ignored | requested | configured | acquired | released | releaseFault =>
    exact absurd (hread.symm.trans hidle) nofun
  | cooled hbefore | started hbefore => exact absurd (hread.symm.trans hbefore) nofun

/-- Settles O50: a step that performs no operation keeps `fsm`, and one that performs an operation leaves the record that
`Effect.record` names. -/
theorem endingsMatchTheConditionTable : Obligations.EndingsMatchTheConditionTable := by
  intro s t h hstep hreset hread hidle
  have htaken := fetch_inv h
  rcases step_cases_noReset hstep hreset with ⟨i, rest, sb, hfetch, he⟩ | ⟨-, rest, sb, out, rfl⟩
  · rw [hfetch] at htaken
    exact he.record htaken hread hidle
  · exact absurd (hread.symm.trans hidle) nofun

end Sys2Proof.Machine

/-! ## Reset, the time wrap and the missing timeout (70_reset_and_hazards.md R181, R187, R192) -/

namespace Sys2Proof.Machine

/-! ### The cooldown in real time (R187) -/

/-- The elapsed time of two sampled times is the true one modulo 2^TIME_W, wherever the count wrapped between them. -/
theorem elapsed_sampled (p : Params) {T0 T : Nat} (hle : T0 ≤ T) :
    elapsed p (sampled p T) (sampled p T0) = (T - T0) % 2 ^ p.timeW := by
  have hcast : (elapsed p (sampled p T) (sampled p T0) : Int) = ((T - T0 : Nat) : Int) % 2 ^ p.timeW := by
    rw [natCast_elapsed, sampled, sampled, Int.ofNat_sub hle]
    push_cast
    exact (Int.sub_emod _ _ _).symm
  exact_mod_cast hcast

/-- The cooldown test of a pending request made at `T0`, at a READ_FRAME of time `T`. -/
theorem inCooldown_iff_realTime {s : State} {T0 T : Nat} (hle : T0 ≤ T) (hpending : s.resyncPending = true)
    (ht0 : s.resyncT0 = sampled s.params T0) (hnow : s.sideband.now = sampled s.params T) :
    inCooldown s = true ↔ (T - T0) % 2 ^ s.params.timeW < s.params.cooldown := by
  rw [inCooldown, hpending, ht0, hnow, elapsed_sampled _ hle, Bool.true_and, decide_eq_true_eq]

/-- Settles O19: the cooldown test decides (`inCooldown_iff_realTime`), and below 2^TIME_W the residue is the difference. -/
theorem cooldownMeasuresRealTime : Obligations.CooldownMeasuresRealTime := by
  intro s T0 T hle hport hidle hpending ht0 hnow
  have hwindow := inCooldown_iff_realTime hle hpending ht0 hnow
  cases hc : inCooldown s with
  | true =>
    have hlt := hwindow.1 hc
    refine ⟨_, exec_readFrame_cooled hport hidle hc, fun _ => ⟨rfl, rfl, rfl, hpending⟩,
      fun hge => absurd hlt hge.not_gt, fun hexact => ?_⟩
    rw [Nat.mod_eq_of_lt hexact] at hlt
    exact ⟨nofun, fun hge => absurd hlt hge.not_gt⟩
  | false =>
    have hge := Nat.not_lt.1 (mt hwindow.2 (Bool.eq_false_iff.1 hc))
    refine ⟨_, exec_readFrame_started hport hidle hc, fun hlt => absurd hlt hge.not_gt,
      fun _ => ⟨rfl, rfl, rfl⟩, fun hexact => ?_⟩
    rw [Nat.mod_eq_of_lt hexact] at hge
    exact ⟨fun _ => hge, fun _ => rfl⟩

/-! ### Leaving READING (R192) -/

/-- An operation that leaves READING is a packet class: no port for operation words may issue it. -/
theorem Effect.packet_of_ended {i : Instr} {s t : State} (he : Effect i s t) (hread : s.fsm = .reading)
    (hidle : t.fsm = .idle) : mayIssue .control i = false ∧ mayIssue .reader i = false := by
  cases he with
  | busError _ hpkt => rcases hpkt with ⟨_, _, _, rfl⟩ | ⟨_, _, rfl⟩ <;> exact ⟨rfl, rfl⟩
  | firstDiscard | stored | payErr => exact ⟨rfl, rfl⟩
  | answered | ignored | requested | configured | acquired | released | releaseFault =>
    exact absurd (hread.symm.trans hidle) nofun
  | cooled hbefore | started hbefore => exact absurd (hread.symm.trans hbefore) nofun

/-- Settles O41: the operation is a packet class, which only a packet brings; a step but RESET that performs none keeps
`fsm`. -/
theorem onlyPacketsAndResetLeaveReading : Obligations.OnlyPacketsAndResetLeaveReading := by
  intro s t hstep hread hidle
  cases hreset : resetIsNext s with
  | true => exact .inr rfl
  | false =>
    rcases step_cases_noReset hstep hreset with ⟨i, rest, sb, hfetch, he⟩ | ⟨-, rest, sb, out, rfl⟩
    · obtain ⟨hcontrol, hreader⟩ := he.packet_of_ended hread hidle
      exact .inl (packetIsNext_of_instr hfetch hcontrol hreader)
    · exact absurd (hread.symm.trans hidle) nofun

/-! ### The RESET step (R181) -/

/-- A RESET step goes to `resetStep` of the state whose input is taken. -/
theorem step_reset {s : State} {rest : List Input} (h : s.inputs = .reset :: rest) :
    step s = .next (resetStep { s with inputs := rest }) :=
  step_of_settled (fetch_reset h)

/-- The geometry after RESET at the reference parameters (R4, R11 to R13). -/
theorem resetStep_geometry_reference {s : State} (h : s.params = .reference) :
    (resetStep s).cfgLen = 160#8 ∧ (resetStep s).cfgPps = 60#12 ∧ (resetStep s).cfgSpf = 4#3 := by
  rw [resetStep, h]
  exact ⟨rfl, rfl, rfl⟩

/-- After RESET buffer 1 is the read buffer (R22). -/
theorem resetStep_rdIdx (s : State) : rdIdx (resetStep s) = 1#1 := by
  change ~~~0#1 = 1#1
  decide

/-- Settles O11: `resetStep` writes each element, and the derived outputs follow from `fsm`, `complete`, `written` and
`wr_idx`. -/
theorem resetStepRestoresEveryElement : Obligations.ResetStepRestoresEveryElement :=
  fun _ _ hin => ⟨_, step_reset hin, rfl, rfl, rfl, fun href => resetStep_geometry_reference href,
    rfl, rfl, rfl, rfl, rfl, rfl, rfl, rfl, rfl, rfl, rfl, rfl, rfl, rfl, rfl, rfl, rfl, rfl,
    rfl, rfl, outcome_of_cleared rfl rfl, resetStep_rdIdx _⟩

end Sys2Proof.Machine

/-! ## Header bytes and the model's own choices (20_memory.md R44; notes/assumptions/2, 5, 6, 10, 13) -/

namespace Sys2Proof.Machine

/-! ### The header's byte order (R44) -/

/-- Settles O7: the assembled descriptor's fields are the joined byte pairs, and each byte is one half of its pair. -/
theorem headerBytesAreBigEndian : Obligations.HeaderBytesAreBigEndian := by
  intro xs b0 b1 b2 b3
  dsimp only [descOfHeader]
  rw [idOf_append, crcOf_append, xsOf_append]
  have hhigh (a b : Byte) : (a ++ b).extractLsb' 8 8 = a :=
    (extract_append_high a b 8 8 le_rfl).trans (extract_all a)
  have hlow (a b : Byte) : (a ++ b).extractLsb' 0 8 = b :=
    (extract_append_low a b 0 8 le_rfl).trans (extract_all b)
  exact ⟨hhigh b0 b1, hlow b0 b1, hhigh b2 b3, hlow b2 b3, rfl⟩

/-! ### Steps that perform no operation -/

/-- Settles O10: with no input taken the step only silences the outputs. -/
theorem stepWithNothingOfferedChangesNothing : Obligations.StepWithNothingOfferedChangesNothing :=
  fun _ hin => step_of_settled (fetch_nil hin)

/-- `resetStep` lists no byte, so every one is a free value of the new drawing (R26, U1). -/
theorem fbByte_resetStep (s : State) (addr : Nat) :
    (resetStep s).fbByte addr = Config.unwrittenByte (resetStep s).fbDraw addr :=
  fbByte_of_unlisted (Memory.read_nil addr)

/-- Settles O12: `resetStep` counts a new drawing, and nothing has been written since it (`fbByte_resetStep`). -/
theorem resetDrawsTheFrameStoreAnew : Obligations.ResetDrawsTheFrameStoreAnew :=
  fun _ _ hin => ⟨_, step_reset hin, rfl, rfl, rfl, fbByte_resetStep _⟩

/-! ### Storing without a slot -/

/-- Settles O30: in READING the packet is taken, and both storing rules stop where `slotExists` fails. -/
theorem storingWithoutASlotFaults : Obligations.StoringWithoutASlotFaults :=
  fun id crc _ hread hslot =>
    ⟨exec_pktVideo_noSlot hread id crc hslot, exec_pktVideoPayerr_noSlot hread id crc hslot⟩

end Sys2Proof.Machine
